-- ==== Sys2Proof/Word.lean ====
section
/-! DEFINITION. The words of the BX-420: bytes and 16-bit words as the host port and the link carry them, station
numbers, and the eight-fold tables that are indexed by a station number or a watch pattern number. -/

namespace Sys2Proof

/-- A byte of a host port transaction or of a link frame (R189, R190). -/
abbrev Byte := BitVec 8

/-- A 16-bit word as READ_WORD returns it (R186). -/
abbrev Word16 := BitVec 16

/-- A station number 0..7 (R46). -/
abbrev Station := Fin 8

/-- A role code of R46, three bits; 7 is NONE. -/
abbrev RoleCode := BitVec 3

/-- One value for each of eight numbers: station numbers (peer table, muster map) or pattern numbers (watch list). -/
structure Eight (α : Type) where
  v0 : α
  v1 : α
  v2 : α
  v3 : α
  v4 : α
  v5 : α
  v6 : α
  v7 : α
deriving DecidableEq, Repr

namespace Eight

/-- The value of number `i`. -/
def get {α : Type} (t : Eight α) (i : Fin 8) : α :=
  match i with
  | 0 => t.v0
  | 1 => t.v1
  | 2 => t.v2
  | 3 => t.v3
  | 4 => t.v4
  | 5 => t.v5
  | 6 => t.v6
  | 7 => t.v7

/-- The table with the value of number `i` replaced. -/
def set {α : Type} (t : Eight α) (i : Fin 8) (a : α) : Eight α :=
  match i with
  | 0 => { t with v0 := a }
  | 1 => { t with v1 := a }
  | 2 => { t with v2 := a }
  | 3 => { t with v3 := a }
  | 4 => { t with v4 := a }
  | 5 => { t with v5 := a }
  | 6 => { t with v6 := a }
  | 7 => { t with v7 := a }

/-- The same value for all eight numbers. -/
def const {α : Type} (a : α) : Eight α := ⟨a, a, a, a, a, a, a, a⟩

/-- A function applied to each of the eight values. -/
def map {α β : Type} (f : α → β) (t : Eight α) : Eight β :=
  ⟨f t.v0, f t.v1, f t.v2, f t.v3, f t.v4, f t.v5, f t.v6, f t.v7⟩

/-- The eight values in the order of their numbers. -/
def toList {α : Type} (t : Eight α) : List α :=
  [t.v0, t.v1, t.v2, t.v3, t.v4, t.v5, t.v6, t.v7]

/-- The first eight values of a list, numbered from 0, with `d` where the list is too short. -/
def ofList {α : Type} (d : α) (l : List α) : Eight α :=
  ⟨l.getD 0 d, l.getD 1 d, l.getD 2 d, l.getD 3 d, l.getD 4 d, l.getD 5 d, l.getD 6 d, l.getD 7 d⟩

end Eight

/-- The eight station numbers in order. -/
def allStations : List Station := [0, 1, 2, 3, 4, 5, 6, 7]

end Sys2Proof
end

