-- ==== Sys2Proof/Syntax.lean ====
section
/-! DEFINITION. The commands of the BX-420 (spec/opcode_table.json), one constructor a row, and the data their
operands carry: tags, causes, reasons, results, beacon and string contents, strap pins and sensor inputs. -/

namespace Sys2Proof

/-- The strap pins read at reset release (R46): station, role and period codes. -/
structure Straps where
  station : Station
  role : RoleCode
  period : BitVec 2
deriving DecidableEq, Repr

/-- A claim tag: originator station and sequence 0..31 (R75). -/
structure Tag where
  station : Station
  seq : BitVec 5
deriving DecidableEq, Repr

/-- The causes, in the code order of 10-8 (R159, R190). -/
inductive Cause where
  | start | limit | sensorFault | slackRope | stringMismatch | linkFault | linkJam | safeDownTimeout
  | demandStarved | peerLostInClaim | claimDivergence | watchMatch | hostTrip | stopInput
deriving DecidableEq, Repr

/-- Refusal and revoke reasons, codes 1..10 of 10-8. -/
inductive Reason where
  | conflict | badClass | condition | notRun | parked | gated | lockout | tensionLost | loadPath | operator
deriving DecidableEq, Repr

/-- Release results, in the code order of 10-8. -/
inductive ReleaseResult where
  | complete | cancelled | timeout | notReady | done | failedAngle | failedTime | failedBound
deriving DecidableEq, Repr

/-- The axis state record a beacon carries (R35, R190), but for the sender's station number, which stands in the
frame header. Role and mode are held as the bytes the frame carried. -/
structure BeaconRecord where
  role : Byte
  mode : Byte
  seq : Byte
  primary : Int
  secondary : Int
  position : Int
  output : Int
  atRest : Bool
  stall : Bool
  unkeyed : Bool
  clearRefused : Bool
  gated : Bool
  map : Eight RoleCode
  generation : Option Byte
  tags : List Tag
deriving DecidableEq, Repr

/-- One section of a STRING frame: lock state code, pocket index and extension as carried (R190). -/
structure StringSection where
  lock : BitVec 4
  pocket : BitVec 4
  ext : Nat
deriving DecidableEq, Repr

/-- The contents of a STRING frame (R190), and so of a string copy (R24). -/
structure StringImage where
  generation : Byte
  count : Nat
  total : Nat
  slack : Nat
  loadComplete : Bool
  certain : Bool
  depth : Int
  sections : List StringSection
deriving DecidableEq, Repr

/-- The raw readings of a role's inputs at one control step (R117): primary measure, secondary measure and position.
An input the role does not have is ignored. -/
structure AxisInputs where
  primary : Int
  secondary : Int
  position : Int
deriving DecidableEq, Repr

/-- What the line brings to an attempt (log 38): the arbitration fields of the other contenders (R27), and for each bit
from the first of the arbitration field on whether the station reads other than the bit it drives (R37). Bits beyond the
list are read as driven. -/
structure LineReading where
  rivals : List (BitVec 7)
  flips : List Bool
deriving DecidableEq, Repr

/-- The commands: one constructor a row of spec/opcode_table.json, in the table's order. -/
inductive Instr where
  | powerOnReset
  | lineReset
  | hostResetBegins
  | resetRelease (pins : Straps)
  | startEnd
  | controlStep (inputs : AxisInputs)
  | segmentCountExpiry
  | demandTimerExpiry
  | lockTurnTimerExpiry
  | stopLineAsserted
  | stopLineNegated
  | safeDownTimerExpiry
  | beaconTimerExpiry
  | stringIntervalExpiry
  | musterSendExpiry
  | musterWindowExpiry
  | silence3P (station : Station)
  | silence8P (station : Station)
  | grantWindowExpiry (tag : Tag)
  | contendForLink (line : LineReading)
  | frameTaken
  | stallCountReached
  | safeDownComplete
  | attemptFailed
  | linkRxError (bits : List Bool)
  | tripFrame (sender origin : Station) (cause : Cause)
  | clearFrame (sender : Station)
  | claimFrame (sender : Station) (tag : Tag) (cls : Byte) (params : Word16)
  | grantFrame (sender : Station) (tag : Tag)
  | takeFrame (sender : Station) (tag : Tag)
  | releaseFrame (sender : Station) (tag : Tag) (result : ReleaseResult)
  | refuseFrame (sender : Station) (tag : Tag) (reason : Reason)
  | revokeFrame (sender : Station) (tag : Tag) (reason : Reason)
  | stringFrame (sender : Station) (image : StringImage)
  | beaconFrame (sender : Station) (beacon : BeaconRecord)
  | divergenceCountReached (station : Station)
  | parkFrame (sender : Station) (mask : Byte)
  | musterFrame (sender : Station) (role : Byte) (map : Eight RoleCode) (fault : Bool)
  | status
  | readEvent
  | ackAttn
  | writeConfig (index : Byte) (block : BitVec 64)
  | join
  | selectRecord (selector : Byte)
  | readWord
  | putSegment (kind : Byte) (target rate count : Word16) (base : Byte)
  | flushSegments
  | requestClaim (cls : Byte) (params : Word16)
  | endClaim (tag : Byte)
  | setOperator (mask deadMan : Byte)
  | sendClear
  | ackTrip
  | forceTrip
  | park (mask : Byte)
  | unpark
  | reset
  | unknownCommand
  | selectPeriodAbandoned
deriving DecidableEq, Repr

end Sys2Proof
end

