-- ==== Sys2Proof/Config.lean ====
section
/-! DEFINITION. What the spec leaves to nobody: the free values of the model. Each is an opaque constant, so that no
proof can see its value and every statement about it holds whatever it is. -/

namespace Sys2Proof

/-- The places at which a measure is used although no reading of it has been taken (log 7). -/
inductive FreeUse where
  | beaconPrimary | beaconSecondary | beaconPosition | valvePrimary | followTension | slackTension
  | measuredPayout | sledgePosition
deriving DecidableEq, Repr

namespace Config

/-- DESIGN CHOICE, safe (log 7): the reading that stands where none has been taken, for each command that asks
(numbered by `State.freeCount`) and each use. -/
opaque freeReading : Nat → FreeUse → Int

/-- DESIGN CHOICE, safe (log 8): the byte STATUS returns for the newest cause of an empty trip record. R180 names it
NONE and 10-8 gives it no code. -/
opaque statusNoneCause : Byte

end Config

end Sys2Proof
end

