-- ==== Sys2Proof/WellFormed.lean ====
section
/-! DEFINITION. Which operands a command can carry: the ranges of the frame fields that the types do not bound
(R28, R190). A frame command whose payload is not well formed is one that fails the checks of R28. -/

namespace Sys2Proof

/-- A signed 16-bit field (R190). -/
def fits16 (v : Int) : Bool := decide (-32768 ≤ v) && decide (v ≤ 32767)

/-- A signed 32-bit field (R190). -/
def fits32 (v : Int) : Bool := decide (-2147483648 ≤ v) && decide (v ≤ 2147483647)

/-- A beacon's contents fit its layout: signed fields within their width and at most eight tags (R190). -/
def BeaconRecord.wf (b : BeaconRecord) : Bool :=
  fits16 b.primary && fits16 b.secondary && fits32 b.position && fits16 b.output && decide (b.tags.length ≤ 8)

/-- A STRING frame's contents fit its layout: a permitted length (N of 2..6, with one section entry for each of
2..N) and every field within its width (R190). -/
def StringImage.wf (g : StringImage) : Bool :=
  decide (2 ≤ g.count) && decide (g.count ≤ 6) && decide (g.sections.length + 1 = g.count)
    && decide (g.total < 4294967296) && decide (g.slack < 65536) && fits32 g.depth
    && g.sections.all (fun e => decide (e.ext < 65536))

/-- A set of classes names no class outside the six: bits 6 and 7 are clear (R28, R120). -/
def classMaskWf (mask : Byte) : Bool := decide (mask.toNat < 64)

/-- The operands of a command are ones the outside can send. -/
def Instr.wf : Instr → Bool
  | .tripFrame _ _ cause => decide (cause ≠ .start)
  | .stringFrame _ image => image.wf
  | .beaconFrame _ beacon => beacon.wf
  | .parkFrame _ mask => classMaskWf mask
  | .powerOnReset | .lineReset | .hostResetBegins | .resetRelease _ | .startEnd | .controlStep _
  | .segmentCountExpiry | .demandTimerExpiry | .lockTurnTimerExpiry | .stopLineAsserted | .stopLineNegated
  | .safeDownTimerExpiry | .beaconTimerExpiry | .stringIntervalExpiry | .musterSendExpiry
  | .musterWindowExpiry | .silence3P _ | .silence8P _ | .grantWindowExpiry _ | .contendForLink _ | .frameTaken
  | .stallCountReached | .safeDownComplete | .attemptFailed | .linkRxError _ | .clearFrame _
  | .claimFrame _ _ _ _ | .grantFrame _ _ | .takeFrame _ _ | .releaseFrame _ _ _ | .refuseFrame _ _ _
  | .revokeFrame _ _ _ | .divergenceCountReached _ | .musterFrame _ _ _ _ | .status | .readEvent | .ackAttn
  | .writeConfig _ _ | .join | .selectRecord _ | .readWord | .putSegment _ _ _ _ _ | .flushSegments
  | .requestClaim _ _ | .endClaim _ | .setOperator _ _ | .sendClear | .ackTrip | .forceTrip | .park _ | .unpark
  | .reset | .unknownCommand | .selectPeriodAbandoned => true

end Sys2Proof
end

