-- ==== Sys2Proof/Decode.lean ====
section
/-! DEFINITION. The commands that a word of the opcode table spells. No row of spec/opcode_table.json gives bits
("fields" is empty in every row and none has a pattern), so no word spells a command and every word is rejected. -/

namespace Sys2Proof

/-- The command spelled by a table word of `nbits` bits: none, since no row of the table gives bits. -/
def decodeTableWord (_nbits _w : Nat) : Option Instr := none

end Sys2Proof
end

