-- ==== Sys2Proof/Machine/Items.lean ====
section
/-! DEFINITION. Roles and the configuration image: the items of the configuration index table (R190) with the ranges
and defaults of R1 and R50, and the watch patterns of R50. -/

namespace Sys2Proof.Machine

/-- The five roles (R46). -/
inductive Role where
  | hoist | crowd | rotary | casing | panel
deriving DecidableEq, Repr

/-- The role a role code names; codes 5, 6 and 7 name none (R46). -/
def Role.ofCode (c : RoleCode) : Option Role :=
  match c.toNat with
  | 0 => some .hoist
  | 1 => some .crowd
  | 2 => some .rotary
  | 3 => some .casing
  | 4 => some .panel
  | _ => none

/-- The code of a role (R46). -/
def Role.code : Role → RoleCode
  | .hoist => 0
  | .crowd => 1
  | .rotary => 2
  | .casing => 3
  | .panel => 4

/-- The muster map's code for an unused station number (10-8). -/
def roleNone : RoleCode := 7

/-- The link period in milliseconds (R46). Code 3 is invalid: such a station stays in STRAP_FAULT and starts no
timer, and the 0 given for it is read by nothing (log 34). -/
def periodMs (c : BitVec 2) : Nat :=
  match c.toNat with
  | 0 => 5
  | 1 => 10
  | 2 => 20
  | _ => 0

/-- The low end of the axis quantity of the role with this code (00_scope.md, role table; R123). PANEL, and a code that
names no role, have no quantity: DESIGN CHOICE, the range 0..0 (log 17). -/
def quantityLow (c : RoleCode) : Int :=
  match Role.ofCode c with
  | some .hoist => -1500
  | some .crowd => -400
  | some .rotary => -300
  | some .casing => -200
  | _ => 0

/-- The high end of the axis quantity of the role with this code (00_scope.md, role table; R123; log 17). -/
def quantityHigh (c : RoleCode) : Int :=
  match Role.ofCode c with
  | some .hoist => 1500
  | some .crowd => 800
  | some .rotary => 300
  | some .casing => 200
  | _ => 0

/-- One numeric configuration item: its range at write and its default (R1, R50). -/
structure ItemRow where
  low : Int
  high : Int
  default : Int
deriving DecidableEq, Repr

/-- Items 0..36, the string geometry of R1. -/
def geometryRows : List ItemRow :=
  [⟨2, 6, 5⟩] ++ List.replicate 5 ⟨1000, 20000, 14000⟩ ++ List.replicate 5 ⟨0, 4, 0⟩
    ++ List.replicate 20 ⟨0, 20000, 0⟩
    ++ [⟨5, 100, 25⟩, ⟨0, 150000, 0⟩, ⟨5, 600, 40⟩, ⟨100, 2000, 500⟩, ⟨-30000, 30000, 0⟩, ⟨-30000, 30000, 0⟩]

/-- Items 37..43, read by every role with an axis (R50); the hard limits depend on the role's quantity. -/
def axisRows (role : RoleCode) : List ItemRow :=
  [⟨1, 65535, 500⟩, ⟨1, 65535, 1000⟩, ⟨0, 1000, 20⟩,
    ⟨quantityLow role, 0, quantityLow role⟩, ⟨0, quantityHigh role, quantityHigh role⟩,
    ⟨50, 2000, 500⟩, ⟨10, 200, 50⟩]

/-- Items 44..50, read by HOIST and CROWD (R50). -/
def hoistCrowdRows : List ItemRow :=
  [⟨5, 1200, 60⟩, ⟨1, 1500, 200⟩, ⟨1, 200, 20⟩, ⟨1, 800, 600⟩, ⟨0, 100, 10⟩, ⟨0, 700, 300⟩, ⟨0, 700, 500⟩]

/-- Items 51..59, read by ROTARY (R50). -/
def rotaryRows : List ItemRow :=
  [⟨1, 50, 10⟩, ⟨1, 300, 100⟩, ⟨5, 90, 30⟩, ⟨1, 50, 20⟩, ⟨500, 10000, 4000⟩, ⟨1, 700, 150⟩, ⟨1, 700, 600⟩,
    ⟨1, 10, 3⟩, ⟨5, 90, 20⟩]

/-- The numeric items by index 0..59 (R190) for a station of the role with this code. -/
def itemRows (role : RoleCode) : List ItemRow :=
  geometryRows ++ axisRows role ++ hoistCrowdRows ++ rotaryRows

/-- The beacon field a watch pattern reads (R50, R190): the mode, one of the five flags, or a measure. -/
inductive WatchField where
  | mode | flag (index : Fin 5) | primary | secondary | position
deriving DecidableEq, Repr

/-- A watch pattern's comparison (R50). -/
inductive WatchCompare where
  | equal | above | below
deriving DecidableEq, Repr

/-- A watch pattern's action (R50). -/
inductive WatchAction where
  | trip | gate | note
deriving DecidableEq, Repr

/-- A used watch pattern (R50); station `none` is ANY. -/
structure Pattern where
  station : Option Station
  field : WatchField
  compare : WatchCompare
  value : Int
  action : WatchAction
deriving DecidableEq, Repr

/-- The configuration image (R50): the numeric items by index and the eight watch patterns, `none` for unused. -/
structure Image where
  items : List Int
  patterns : Eight (Option Pattern)
deriving DecidableEq, Repr

/-- The image with every item at its default, for a station of the role with this code (R45, R50). -/
def Image.defaults (role : RoleCode) : Image :=
  { items := (itemRows role).map (·.default), patterns := Eight.const none }

/-- The numeric item of an index of the configuration index table (R190). -/
def Image.item (g : Image) (index : Nat) : Int := g.items.getD index 0

/-- The number N of kelly sections (R1). -/
def Image.sectionCount (g : Image) : Nat := (g.item 0).toNat
/-- The stroke S_k of section `k`, 2..6 (R1). -/
def Image.stroke (g : Image) (k : Nat) : Int := g.item (k - 1)
/-- The pocket count of section `k`, 2..6 (R1). -/
def Image.pocketCount (g : Image) (k : Nat) : Nat := (g.item (k + 4)).toNat
/-- The position of pocket `i` of section `k` (R1, R190). -/
def Image.pocket (g : Image) (k i : Nat) : Int := g.item (11 + 4 * (k - 2) + i)
/-- The pocket window W (R1). -/
def Image.window (g : Image) : Int := g.item 31
/-- The rest payout mark (R1). -/
def Image.restPayout (g : Image) : Int := g.item 32
/-- The hang threshold (R1). -/
def Image.hangThreshold (g : Image) : Int := g.item 33
/-- The slack limit (R1). -/
def Image.slackLimit (g : Image) : Int := g.item 34
/-- The depth offset (R1). -/
def Image.depthOffset (g : Image) : Int := g.item 35
/-- The surface mark (R1). -/
def Image.surfaceMark (g : Image) : Int := g.item 36
/-- The withdraw rate, units per second (R50). -/
def Image.withdrawRate (g : Image) : Int := g.item 37
/-- The safe-down rate, units per second (R50). -/
def Image.safeDownRate (g : Image) : Int := g.item 38
/-- The rest band (R50). -/
def Image.restBand (g : Image) : Int := g.item 39
/-- The low hard limit (R50). -/
def Image.hardLow (g : Image) : Int := g.item 40
/-- The high hard limit (R50). -/
def Image.hardHigh (g : Image) : Int := g.item 41
/-- The demand timeout in milliseconds (R50). -/
def Image.demandTimeout (g : Image) : Nat := (g.item 42).toNat
/-- The safe-down limit in periods (R50). -/
def Image.safeDownLimit (g : Image) : Nat := (g.item 43).toNat
/-- The follow tension (R50). -/
def Image.followTension (g : Image) : Int := g.item 44
/-- The follow speed limit (R50). -/
def Image.followSpeedLimit (g : Image) : Int := g.item 45
/-- The HOIST creep speed (R50). -/
def Image.creepHoist (g : Image) : Int := g.item 46
/-- The maximum crowd force (R50). -/
def Image.maxForce (g : Image) : Int := g.item 47
/-- The slack force threshold (R50). -/
def Image.slackForce (g : Image) : Int := g.item 48
/-- The relief onset T1 (R50). -/
def Image.reliefOnset (g : Image) : Int := g.item 49
/-- The relief end T2 (R50). -/
def Image.reliefEnd (g : Image) : Int := g.item 50
/-- The ROTARY creep speed (R50). -/
def Image.creepRotary (g : Image) : Int := g.item 51
/-- The spin speed limit (R50). -/
def Image.spinLimit (g : Image) : Int := g.item 52
/-- The lock angle in degrees (R50). -/
def Image.lockAngle (g : Image) : Nat := (g.item 53).toNat
/-- The lock speed (R50). -/
def Image.lockSpeed (g : Image) : Int := g.item 54
/-- The lock-turn time in milliseconds (R50). -/
def Image.lockTurnTime (g : Image) : Nat := (g.item 55).toNat
/-- The seat torque (R50). -/
def Image.seatTorque (g : Image) : Int := g.item 56
/-- The stall torque (R50). -/
def Image.stallTorque (g : Image) : Int := g.item 57
/-- The stall periods (R50). -/
def Image.stallPeriods (g : Image) : Nat := (g.item 58).toNat
/-- The free angle in degrees (R50). -/
def Image.freeAngle (g : Image) : Nat := (g.item 59).toNat

/-- A numeric item written: `none` where the index names none or the value lies outside the item's range (R50,
R188). -/
def Image.write (g : Image) (role : RoleCode) (index : Nat) (v : Int) : Option Image :=
  match (itemRows role)[index]? with
  | some row => if row.low ≤ v ∧ v ≤ row.high then some { g with items := g.items.set index v } else none
  | none => none

/-- A watch pattern slot written (R50). -/
def Image.writePattern (g : Image) (slot : Fin 8) (p : Option Pattern) : Image :=
  { g with patterns := g.patterns.set slot p }

/-- The first pocket position of section `k` that is beyond its stroke, out of order or too close to its neighbour:
its index in the configuration index table (R1, R51). Each position is compared with the one before it, so that of two
adjacent ones out of order or too close the later is named (DESIGN CHOICE, log 39). -/
def Image.badPocketOf (g : Image) (k : Nat) : Option Nat :=
  (List.range (g.pocketCount k)).findSome? fun i =>
    if g.stroke k < g.pocket k i ∨ (0 < i ∧ g.pocket k i - g.pocket k (i - 1) ≤ 2 * g.window) then
      some (11 + 4 * (k - 2) + i)
    else none

/-- The first pocket position that fails the geometry conditions, in the order of sections 2..N and pocket indices
(R1, R51). -/
def Image.badPocket (g : Image) : Option Nat :=
  (List.range (g.sectionCount - 1)).findSome? fun j => g.badPocketOf (j + 2)

/-- The check of JOIN: the index of the item named by the first failing condition of the role, or `none` when every
condition holds (R51). -/
def Image.joinFault (g : Image) (role : Role) : Option Nat :=
  if role = .panel then none
  else if ¬ (g.hardLow < 0 ∧ 0 < g.hardHigh) then some 40
  else if ¬ (g.restBand < -g.hardLow ∧ g.restBand < g.hardHigh) then some 39
  else
    match role with
    | .hoist =>
      match g.badPocket with
      | some i => some i
      | none => if g.hangThreshold < g.followTension then none else some 44
    | .crowd =>
      if ¬ g.reliefOnset < g.reliefEnd then some 49
      else if ¬ g.slackForce < g.maxForce then some 48
      else none
    | .rotary => if g.seatTorque < g.stallTorque then none else some 56
    | .casing => none
    | .panel => none

end Sys2Proof.Machine
end

