-- ==== Sys2Proof/Machine/State.lean ====
section
/-! DEFINITION. The state of one BX-420 node, block by block as the manual's block diagram names them, and the state
at reset. Every field is plain data. -/

namespace Sys2Proof.Machine

/-- The station modes, in the code order of 10-8. -/
inductive Mode where
  | start | strapFault | config | muster | musterFault | safed | run | parked | safeDown | lockout
deriving DecidableEq, Repr

/-- The three reset kinds (R44), in the code order of 10-8. -/
inductive ResetKind where
  | powerOn | line | host
deriving DecidableEq, Repr

/-- The six claim classes (R73), in the code order of 10-8. -/
inductive MotionClass where
  | rotate | lockTurn | crowdLoad | stringMove | spinOff | casingTurn
deriving DecidableEq, Repr

/-- A claim's class with its parameters (R73). `reverse`, `disengage` and `raise` are the second direction of each. -/
inductive ClaimKind where
  | rotate (reverse : Bool)
  | lockTurn (sec : Nat) (disengage : Bool)
  | crowdLoad (ceiling : Nat)
  | stringMove (raise : Bool)
  | spinOff
  | casingTurn
deriving DecidableEq, Repr

/-- The state of a claim entry (R75). -/
inductive ClaimState where
  | pending | granted | held
deriving DecidableEq, Repr

/-- The frame kinds (R26), in the order of their codes. -/
inductive FrameKind where
  | trip | clear | revoke | release | refuse | grant | take | claim | string | beacon | park | muster
deriving DecidableEq, Repr

/-- A frame on the link with its contents (R26, R190); the sender's number stands in the header. -/
inductive Frame where
  | trip (origin : Station) (cause : Cause)
  | clear
  | revoke (tag : Tag) (reason : Reason)
  | release (tag : Tag) (result : ReleaseResult)
  | refuse (tag : Tag) (reason : Reason)
  | grant (tag : Tag)
  | take (tag : Tag)
  | claim (tag : Tag) (cls : Byte) (params : Word16)
  | string (image : StringImage)
  | beacon (record : BeaconRecord)
  | park (mask : Byte)
  | muster (role : Byte) (map : Eight RoleCode) (fault : Bool)
deriving DecidableEq, Repr

/-- An entry of the transmit queue (R31). BEACON stands for the beacon-due marker; STRING and MUSTER frames are filled
when they win arbitration (R34), the others carry their payload. -/
inductive TxItem where
  | trip (origin : Station) (cause : Cause)
  | clear
  | revoke (tag : Tag) (reason : Reason)
  | release (tag : Tag) (result : ReleaseResult)
  | refuse (tag : Tag) (reason : Reason)
  | grant (tag : Tag)
  | take (tag : Tag)
  | claim (tag : Tag) (kind : ClaimKind)
  | string
  | beacon
  | park (mask : Byte)
  | muster
deriving DecidableEq, Repr

/-- How the end of the frame in transmission is judged: as R37 gives; removed where it has failed (R40, R41); or not
judged at all (R42, MUSTER_FAULT). -/
inductive Fate where
  | judged | removedIfFailed | unjudged
deriving DecidableEq, Repr

/-- A frame in transmission: its contents as filled when it won (R34), its fate, and whether the echo check has found a
fault in it (R37). -/
structure Sending where
  frame : Frame
  fate : Fate
  echoFault : Bool
deriving DecidableEq, Repr

/-- The transmit queue entry that holds the head (R31): the one in transmission, or one with a failed attempt behind
it. It counts among the queue's entries. -/
structure Slot where
  item : TxItem
  sending : Option Sending
deriving DecidableEq, Repr

/-- Link Controller (R31, R36, R43). The transmit queue's entries are `slot`, where present, and `queue`, in order. -/
structure LinkController where
  queue : List TxItem
  slot : Option Slot
  attempts : Nat
  beaconSeq : Byte
  beaconTimer : Option Nat
deriving DecidableEq, Repr

/-- Muster Unit (R45, R46, R52), with the reset bookkeeping of R44. `pins` are the levels at the strap pins, read at a
reset's release only (R46). -/
structure MusterUnit where
  pins : Straps
  straps : Straps
  map : Eight RoleCode
  dupRoles : Byte
  conflict : Bool
  peerFault : Bool
  windowTimer : Option Nat
  sendTimer : Option Nat
  lateMarks : Byte
  resetCauses : BitVec 3
  startKind : ResetKind
  resetHeld : Bool
deriving DecidableEq, Repr

/-- The six admission states of a peer entry (04, section 4-2), in the code order of 10-8. -/
inductive Admission where
  | absent | awaiting | fresh | stale | lost | foreign
deriving DecidableEq, Repr

/-- A peer entry (R59). -/
structure PeerEntry where
  admission : Admission
  role : RoleCode
  beacon : Option BeaconRecord
  lastSeq : Option Byte
  silence : Nat
  parkMask : Option Byte
  unadmitted : Bool
  divergence : Nat
deriving DecidableEq, Repr

/-- A claim table entry with the station's own marks (R75); station sets are masks in which bit s stands for
station s (10-8). -/
structure ClaimEntry where
  tag : Tag
  kind : ClaimKind
  consentSet : Byte
  grants : Byte
  state : ClaimState
  consent : Bool
  revokeQueued : Bool
  grantWindow : Option Nat
  releasePending : Bool
  takeQueued : Bool
deriving DecidableEq, Repr

/-- Claim Engine (R75, R76). -/
structure ClaimEngine where
  table : List ClaimEntry
  ownSeq : BitVec 5
deriving DecidableEq, Repr

/-- The lock state of a kelly section; SEATED carries its pocket index (R2, R4). -/
inductive LockState where
  | retracted | free | seated (pocket : Fin 4) | doubtful
deriving DecidableEq, Repr

/-- One section of the string record (R2). -/
structure SectionEntry where
  lock : LockState
  ext : Int
deriving DecidableEq, Repr

/-- The string record (R2): `sections` holds sections 2..N in order; `loadComplete` is the load path COMPLETE and
`certain` the certainty CERTAIN. -/
structure StringRecord where
  generation : Byte
  count : Nat
  sections : List SectionEntry
  total : Int
  slack : Int
  loadComplete : Bool
  certain : Bool
  depth : Int
deriving DecidableEq, Repr

/-- String Tracker (R2, R3, R24). -/
structure StringTracker where
  record : Option StringRecord
  copy : Option StringImage
  refreshed : Bool
  lastPayout : Option Int
  lastTension : Option Int
  lastSledge : Option Int
  startPending : Bool
  mismatch : Bool
  slackOver : Bool
  queued : Bool
  refTotal : Option Int
  interval : Option Nat
deriving DecidableEq, Repr

/-- Envelope Unit (R99). `demand` and `followTarget` are in thousandths of the role's unit. -/
structure EnvelopeUnit where
  low : Int
  high : Int
  followOn : Bool
  followTarget : Int
  keyedStop : Bool
  relief : Nat
  dropLatch : Bool
  enableSet : Byte
  deadManHeld : Bool
  demand : Int
deriving DecidableEq, Repr

/-- What a segment does, with the fields its kind uses (R123). -/
inductive SegmentBody where
  | ramp (target : Int) (rate : Nat)
  | level (target : Int) (count : Nat)
  | dwell (count : Nat)
  | mark
  | again (base : Nat) (current : Option Nat)
deriving DecidableEq, Repr

/-- A segment of the queue (R123); `SegmentBody.again` is the kind REPEAT. -/
structure Segment where
  body : SegmentBody
  completed : Bool
deriving DecidableEq, Repr

/-- The five engine states (R129), in the code order of 10-8. -/
inductive EngineState where
  | empty | running | waiting | suspended | frozen
deriving DecidableEq, Repr

/-- Segment Engine (R122). `value` is in thousandths of the role's unit. A `mark` equal to the queue's length names
no segment yet (R134). -/
structure SegmentEngine where
  queue : List Segment
  pointer : Option Nat
  begun : Bool
  remaining : Nat
  accumulation : Nat
  mark : Option Nat
  value : Int
  state : EngineState
  demandTimer : Option Nat
deriving DecidableEq, Repr

/-- The four lock-turn states (R146), in the code order of 10-8. -/
inductive LockTurnState where
  | idle | settling | turning | stopping
deriving DecidableEq, Repr

/-- The own LOCK_TURN being served (R144). -/
structure Turn where
  tag : Tag
  sec : Nat
  disengage : Bool
deriving DecidableEq, Repr

/-- The class under which the ROTARY drive turns (R155): that of the own entry most recently HELD, the classes that ROTARY
does not originate among them (log 37). -/
inductive RotationAccount where
  | none | rotateForward | rotateReverse | lockTurn | spinOff | crowdLoad | stringMove | casingTurn
deriving DecidableEq, Repr

/-- Lock-Turn Unit (R144). Angles are in microdegrees, `turnSpeed` in thousandths of 0.1 rpm. -/
structure LockTurnUnit where
  state : LockTurnState
  turn : Option Turn
  angle : Nat
  timer : Nat
  timerRunning : Bool
  armed : Bool
  turnSpeed : Int
  result : Option ReleaseResult
  stallCount : Nat
  stall : Bool
  account : RotationAccount
  reverseAngle : Nat
  unkeyed : Bool
deriving DecidableEq, Repr

/-- A trip record entry (R160). -/
structure TripEntry where
  origin : Station
  cause : Cause
  isLocal : Bool
  acked : Bool
deriving DecidableEq, Repr

/-- A cause as a block hands it to the Trip Controller (R159): its name, the block's detail, and a tag or a station
where the rule names one. -/
structure CauseReport where
  cause : Cause
  detail : Nat
  tag : Option Tag
  station : Option Station
deriving DecidableEq, Repr

/-- Trip Controller (R160), with the station's own park mask (R120) and the cause last handed to it (log 11). -/
structure TripController where
  record : List TripEntry
  clearRefused : Bool
  safeDownTimer : Option Nat
  restCount : Nat
  matchSets : Eight Byte
  gated : Bool
  stopActive : Bool
  ownParkMask : Option Byte
  lastCause : Option CauseReport
deriving DecidableEq, Repr

/-- One axis input (R117): the latest reading taken and the out-of-range mark. -/
structure AxisInput where
  latest : Option Int
  outOfRange : Bool
deriving DecidableEq, Repr

/-- Axis Interface (R116 to R119) and the level of the STOP pin (R169). -/
structure AxisInterface where
  primary : AxisInput
  secondary : AxisInput
  position : AxisInput
  limitMark : Bool
  valve : Int
  brakeSet : Bool
  stopPin : Bool
deriving DecidableEq, Repr

/-- The event kinds of R184. -/
inductive EventKind where
  | reset | musterClosed | musterFault | lateJoiner | strayFrame | frameIgnored
  | linkRxError | selfHeard | beaconSkipped | tagsDiffer
  | peerState | unadmittedBeacon
  | claimAdmitted | claimWithdrawn | consentRefused | claimRefused | claimTimeout | claimHeld | claimReleased
  | claimRevoked | claimVoided | parked | unparked
  | stringShift | stringChange | unkey | copyValid | copyInvalid
  | follow | keyedStop | crowdDrop
  | queueEmpty | segmentAbandoned | segmentsFlushed
  | lockTurnBegun | lockTurnResult | lockTurnAborted | stall | unkeyed
  | trip | safed | lockout | cleared | clearRefused | watchNote | watchGate
deriving DecidableEq, Repr

/-- An event record (R184). Detail fields a kind does not use are 0 (R190). -/
structure Event where
  kind : EventKind
  stamp : Word16
  station : Option Station
  tag : Option Tag
  sec : Option Nat
  code : Nat
  aux : Nat
  value : Nat
deriving DecidableEq, Repr

/-- The reply statuses (R178). -/
inductive Status where
  | done | notReady | wrongMode | wrongRole | badValue | queueFull | empty | changed | merged | refusedLocal
deriving DecidableEq, Repr

/-- A reply: its status and the result, reason or index bytes after it (R189). -/
structure Reply where
  status : Status
  bytes : List Byte
deriving DecidableEq, Repr

/-- Host Port (R179), with the last reply (log 3) and the interval from a RESET to its reset (R43). -/
structure HostPort where
  events : List Event
  overrun : Bool
  acked : Bool
  attn : Bool
  selection : Option Nat
  wordIndex : Nat
  changeMark : Bool
  resetPending : Bool
  resetTaken : Bool
  reply : Option Reply
deriving DecidableEq, Repr

/-- A fault stops the machine. The BX-420 has none: every command of the table ends in a next state, and the node's own
faults are trip causes (R159). No meaning raises one; having none is safe. -/
inductive Fault where
deriving DecidableEq, Repr

/-- A refusal: the model has no meaning for the command. -/
inductive Refusal where
  /-- Raised by an arm of `exec` whose command has no meaning yet; safe. No arm raises it. -/
  | notModelled (mnemonic : String)
deriving DecidableEq, Repr

end Sys2Proof.Machine

namespace Sys2Proof.Machine

/-- The state of one node, block by block. -/
structure State where
  mode : Mode
  image : Image
  muster : MusterUnit
  link : LinkController
  peers : Eight PeerEntry
  claims : ClaimEngine
  strings : StringTracker
  envelope : EnvelopeUnit
  segments : SegmentEngine
  lockTurn : LockTurnUnit
  trips : TripController
  axis : AxisInterface
  host : HostPort
  stamp : Word16
  freeCount : Nat
  pending : List Instr
deriving DecidableEq, Repr

/-- The Muster Unit after a reset of kind `kind` whose cause set is `causes` (R44, R45), the strap pins keeping their
levels. The latched straps read 0 until the release latches them (DESIGN CHOICE, log 4). -/
def MusterUnit.atReset (pins : Straps) (kind : ResetKind) (causes : BitVec 3) : MusterUnit where
  pins := pins
  straps := { station := 0, role := 0, period := 0 }
  map := Eight.const roleNone
  dupRoles := 0
  conflict := false
  peerFault := false
  windowTimer := none
  sendTimer := none
  lateMarks := 0
  resetCauses := causes
  startKind := kind
  resetHeld := true

/-- The Link Controller after any reset (R43). -/
def LinkController.atReset : LinkController where
  queue := []
  slot := none
  attempts := 0
  beaconSeq := 0
  beaconTimer := none

/-- A peer entry after any reset (R60). -/
def PeerEntry.atReset : PeerEntry where
  admission := .absent
  role := roleNone
  beacon := none
  lastSeq := none
  silence := 0
  parkMask := none
  unadmitted := false
  divergence := 0

/-- The Claim Engine after any reset (R75). -/
def ClaimEngine.atReset : ClaimEngine where
  table := []
  ownSeq := 0

/-- The String Tracker after any reset (R3). -/
def StringTracker.atReset : StringTracker where
  record := none
  copy := none
  refreshed := false
  lastPayout := none
  lastTension := none
  lastSledge := none
  startPending := false
  mismatch := false
  slackOver := false
  queued := false
  refTotal := none
  interval := none

/-- The Envelope Unit after any reset (R99). -/
def EnvelopeUnit.atReset : EnvelopeUnit where
  low := 0
  high := 0
  followOn := false
  followTarget := 0
  keyedStop := false
  relief := 0
  dropLatch := false
  enableSet := 0
  deadManHeld := false
  demand := 0

/-- The Segment Engine after any reset (R122). -/
def SegmentEngine.atReset : SegmentEngine where
  queue := []
  pointer := none
  begun := false
  remaining := 0
  accumulation := 0
  mark := none
  value := 0
  state := .empty
  demandTimer := none

/-- The Lock-Turn Unit after any reset (R144). -/
def LockTurnUnit.atReset : LockTurnUnit where
  state := .idle
  turn := none
  angle := 0
  timer := 0
  timerRunning := false
  armed := false
  turnSpeed := 0
  result := none
  stallCount := 0
  stall := false
  account := .none
  reverseAngle := 0
  unkeyed := false

/-- The Trip Controller after any reset (R160). -/
def TripController.atReset : TripController where
  record := []
  clearRefused := false
  safeDownTimer := none
  restCount := 0
  matchSets := Eight.const 0
  gated := false
  stopActive := false
  ownParkMask := none
  lastCause := none

/-- An axis input after any reset (R117). -/
def AxisInput.atReset : AxisInput where
  latest := none
  outOfRange := false

/-- The Axis Interface after any reset (R45, R116 to R119); the STOP pin keeps its level (log 23). -/
def AxisInterface.atReset (stopPin : Bool) : AxisInterface where
  primary := AxisInput.atReset
  secondary := AxisInput.atReset
  position := AxisInput.atReset
  limitMark := false
  valve := 0
  brakeSet := true
  stopPin := stopPin

/-- The Host Port after any reset (R179). -/
def HostPort.atReset : HostPort where
  events := []
  overrun := false
  acked := false
  attn := false
  selection := none
  wordIndex := 0
  changeMark := false
  resetPending := false
  resetTaken := false
  reply := none

/-- The state every reset kind puts every block into (R45), not yet released. `causes` is the reset cause set
with the reset counted in (R44). -/
def State.afterReset (pins : Straps) (kind : ResetKind) (causes : BitVec 3) (stopPin : Bool) (freeCount : Nat)
    (pending : List Instr) : State where
  mode := .start
  image := Image.defaults 0
  muster := MusterUnit.atReset pins kind causes
  link := LinkController.atReset
  peers := Eight.const PeerEntry.atReset
  claims := ClaimEngine.atReset
  strings := StringTracker.atReset
  envelope := EnvelopeUnit.atReset
  segments := SegmentEngine.atReset
  lockTurn := LockTurnUnit.atReset
  trips := TripController.atReset
  axis := AxisInterface.atReset stopPin
  host := HostPort.atReset
  stamp := 0
  freeCount := freeCount
  pending := pending

/-- The machine right after its first reset: supply applied (POWER_ON, bit 0 of the cause set), the reset not yet
released, the strap pins at 0 (log 4), the STOP pin negated (log 23), the free-value counter at 0 (log 30) and no command waiting. -/
def State.reset : State := State.afterReset ⟨0, 0, 0⟩ .powerOn 1 false 0 []

end Sys2Proof.Machine
end

