-- ==== Sys2Proof/Machine/Operands.lean ====
section
/-! DEFINITION. The codes of 10-8 and the operand forms of 10-9: tags, masks, classes with their parameters, watch
patterns, and the bytes and words that wider values are cut into. -/

namespace Sys2Proof.Machine

/-! ### Bytes, words and masks -/

/-- The set holding one station (10-8). -/
def stationBit (s : Station) : Byte := 1#8 <<< s.val

/-- Membership of a station in a station mask (10-8). -/
def inMask (m : Byte) (s : Station) : Bool := m.getLsbD s.val

/-- The station mask of the stations that satisfy a test. -/
def stationMask (f : Station → Bool) : Byte :=
  allStations.foldl (fun m s => if f s then m ||| stationBit s else m) 0

/-- The two bytes of a 16-bit word, most significant first (R189). -/
def wordBytes (w : Word16) : List Byte := [w.extractLsb' 8 8, w.extractLsb' 0 8]

/-- A word from its two bytes, most significant first (R189). -/
def wordOf (hi lo : Byte) : Word16 := hi ++ lo

/-- A count or distance held at 65 535 (R184, R190). -/
def held16 (n : Nat) : Nat := min n 65535

/-- Movement toward an aim by at most `step`, stopping at the aim. -/
def moveToward (v aim step : Int) : Int :=
  if v < aim then min aim (v + step) else max aim (v - step)

/-- A value limited to a range. -/
def limitTo (low high v : Int) : Int := max low (min high v)

/-- Rounding toward the rest value 0 from thousandths to whole units (R99). -/
def wholeUnits (v : Int) : Int := v.tdiv 1000

/-! ### Codes (10-8) -/

/-- Mode codes. -/
def Mode.code : Mode → Nat
  | .start => 0 | .strapFault => 1 | .config => 2 | .muster => 3 | .musterFault => 4
  | .safed => 5 | .run => 6 | .parked => 7 | .safeDown => 8 | .lockout => 9

/-- Class codes. -/
def MotionClass.code : MotionClass → Nat
  | .rotate => 0 | .lockTurn => 1 | .crowdLoad => 2 | .stringMove => 3 | .spinOff => 4 | .casingTurn => 5

/-- The class a class code names. -/
def MotionClass.ofCode (c : Byte) : Option MotionClass :=
  match c.toNat with
  | 0 => some .rotate
  | 1 => some .lockTurn
  | 2 => some .crowdLoad
  | 3 => some .stringMove
  | 4 => some .spinOff
  | 5 => some .casingTurn
  | _ => none

/-- Claim state codes. -/
def ClaimState.code : ClaimState → Nat
  | .pending => 0 | .granted => 1 | .held => 2

end Sys2Proof.Machine

namespace Sys2Proof

open Machine

/-- Cause codes. -/
def Cause.code : Cause → Nat
  | .start => 0 | .limit => 1 | .sensorFault => 2 | .slackRope => 3 | .stringMismatch => 4 | .linkFault => 5
  | .linkJam => 6 | .safeDownTimeout => 7 | .demandStarved => 8 | .peerLostInClaim => 9 | .claimDivergence => 10
  | .watchMatch => 11 | .hostTrip => 12 | .stopInput => 13

/-- The cause a cause code names. -/
def Cause.ofCode (c : Nat) : Option Cause :=
  [Cause.start, .limit, .sensorFault, .slackRope, .stringMismatch, .linkFault, .linkJam, .safeDownTimeout,
    .demandStarved, .peerLostInClaim, .claimDivergence, .watchMatch, .hostTrip, .stopInput][c]?

/-- Refusal and revoke reason codes, from 1. -/
def Reason.code : Reason → Nat
  | .conflict => 1 | .badClass => 2 | .condition => 3 | .notRun => 4 | .parked => 5 | .gated => 6 | .lockout => 7
  | .tensionLost => 8 | .loadPath => 9 | .operator => 10

/-- The reason a refusal and revoke reason code names; code 0 is not used. -/
def Reason.ofCode (c : Nat) : Option Reason :=
  [none, some Reason.conflict, some .badClass, some .condition, some .notRun, some .parked, some .gated,
    some .lockout, some .tensionLost, some .loadPath, some .operator].getD c none

/-- Release result codes. -/
def ReleaseResult.code : ReleaseResult → Nat
  | .complete => 0 | .cancelled => 1 | .timeout => 2 | .notReady => 3 | .done => 4 | .failedAngle => 5
  | .failedTime => 6 | .failedBound => 7

/-- The result a release result code names. -/
def ReleaseResult.ofCode (c : Nat) : Option ReleaseResult :=
  [ReleaseResult.complete, .cancelled, .timeout, .notReady, .done, .failedAngle, .failedTime, .failedBound][c]?

/-- Whether a release result is one of the four lock-turn results (R90). -/
def ReleaseResult.isLockTurn : ReleaseResult → Bool
  | .done | .failedAngle | .failedTime | .failedBound => true
  | .complete | .cancelled | .timeout | .notReady => false

end Sys2Proof

namespace Sys2Proof.Machine

/-- Local refusal reasons by their codes of 10-8. -/
inductive LocalReason where
  | role | conflict | gated | memberNotFresh | memberParked | loadPath | badSequence | claimsLive | consentHeld
  | notAtRest
deriving DecidableEq, Repr

/-- Local refusal reason codes; 2 and 3 are not used. -/
def LocalReason.code : LocalReason → Nat
  | .role => 0 | .conflict => 1 | .gated => 4 | .memberNotFresh => 5 | .memberParked => 6 | .loadPath => 7
  | .badSequence => 8 | .claimsLive => 9 | .consentHeld => 10 | .notAtRest => 11

/-- Frame kind codes (R26): the lower the code, the higher the priority. -/
def FrameKind.code : FrameKind → Nat
  | .trip => 0 | .clear => 1 | .revoke => 2 | .release => 3 | .refuse => 4 | .grant => 5 | .take => 6 | .claim => 7
  | .string => 8 | .beacon => 9 | .park => 10 | .muster => 11

/-- The kind of a frame. -/
def Frame.kind : Frame → FrameKind
  | .trip _ _ => .trip | .clear => .clear | .revoke _ _ => .revoke | .release _ _ => .release
  | .refuse _ _ => .refuse | .grant _ => .grant | .take _ => .take | .claim _ _ _ => .claim
  | .string _ => .string | .beacon _ => .beacon | .park _ => .park | .muster _ _ _ => .muster

/-- The kind of a transmit queue entry. -/
def TxItem.kind : TxItem → FrameKind
  | .trip _ _ => .trip | .clear => .clear | .revoke _ _ => .revoke | .release _ _ => .release
  | .refuse _ _ => .refuse | .grant _ => .grant | .take _ => .take | .claim _ _ => .claim
  | .string => .string | .beacon => .beacon | .park _ => .park | .muster => .muster

/-- Admission state codes. -/
def Admission.code : Admission → Nat
  | .absent => 0 | .awaiting => 1 | .fresh => 2 | .stale => 3 | .lost => 4 | .foreign => 5

/-- Lock state codes. -/
def LockState.code : LockState → Nat
  | .retracted => 0 | .free => 1 | .seated _ => 2 | .doubtful => 3

/-- The pocket index of a SEATED section (R2). -/
def LockState.pocket : LockState → Option Nat
  | .seated p => some p.val
  | .retracted | .free | .doubtful => none

/-- Engine state codes. -/
def EngineState.code : EngineState → Nat
  | .empty => 0 | .running => 1 | .waiting => 2 | .suspended => 3 | .frozen => 4

/-- Lock-turn state codes. -/
def LockTurnState.code : LockTurnState → Nat
  | .idle => 0 | .settling => 1 | .turning => 2 | .stopping => 3

/-- Segment kind codes. -/
def SegmentBody.code : SegmentBody → Nat
  | .ramp _ _ => 0 | .level _ _ => 1 | .dwell _ => 2 | .mark => 3 | .again _ _ => 4

/-- Reset kind codes; bit `code` of the reset cause set stands for the kind. -/
def ResetKind.code : ResetKind → Nat
  | .powerOn => 0 | .line => 1 | .host => 2

/-- The reset cause set with a kind added (R44). -/
def ResetKind.addTo (k : ResetKind) (causes : BitVec 3) : BitVec 3 := causes ||| (1#3 <<< k.code)

/-- A flag as a code or a word: 1 when set. -/
def bit (b : Bool) : Nat := if b then 1 else 0

/-- Event kind codes (R184); code 28 is not used. -/
def EventKind.code : EventKind → Nat
  | .reset => 0 | .musterClosed => 1 | .musterFault => 2 | .lateJoiner => 3 | .strayFrame => 4 | .frameIgnored => 5
  | .linkRxError => 6 | .selfHeard => 7 | .beaconSkipped => 8 | .tagsDiffer => 9
  | .peerState => 10 | .unadmittedBeacon => 11
  | .claimAdmitted => 12 | .claimWithdrawn => 13 | .consentRefused => 14 | .claimRefused => 15
  | .claimTimeout => 16 | .claimHeld => 17 | .claimReleased => 18 | .claimRevoked => 19 | .claimVoided => 20
  | .parked => 21 | .unparked => 22
  | .stringShift => 23 | .stringChange => 24 | .unkey => 25 | .copyValid => 26 | .copyInvalid => 27
  | .follow => 29 | .keyedStop => 30 | .crowdDrop => 31
  | .queueEmpty => 32 | .segmentAbandoned => 33 | .segmentsFlushed => 34
  | .lockTurnBegun => 35 | .lockTurnResult => 36 | .lockTurnAborted => 37 | .stall => 38 | .unkeyed => 39
  | .trip => 40 | .safed => 41 | .lockout => 42 | .cleared => 43 | .clearRefused => 44 | .watchNote => 45
  | .watchGate => 46

/-- Reply status codes, numbered from 0 in the order in which R178 lists the names: 10-8 has no
list of its own for them (DEDUCED, log 43). -/
def Status.code : Status → Nat
  | .done => 0 | .notReady => 1 | .wrongMode => 2 | .wrongRole => 3 | .badValue => 4 | .queueFull => 5
  | .empty => 6 | .changed => 7 | .merged => 8 | .refusedLocal => 9

/-- Auxiliary codes of FRAME_IGNORED that are not admission states (10-8). -/
def ignoredNotMember : Nat := 6
/-- FRAME_IGNORED auxiliary code NOT_ORIGINATOR (10-8). -/
def ignoredNotOriginator : Nat := 7
/-- FRAME_IGNORED auxiliary code UNGRANTED (10-8). -/
def ignoredUngranted : Nat := 8

/-- The dispositions of a TRIP event (R161), by their codes of 10-8. -/
inductive Disposition where
  | recorded | replacedPeer | discarded | duplicate | notRecorded
deriving DecidableEq, Repr

/-- Disposition codes. -/
def Disposition.code : Disposition → Nat
  | .recorded => 0 | .replacedPeer => 1 | .discarded => 2 | .duplicate => 3 | .notRecorded => 4

/-! ### Tags, classes and parameters -/

end Sys2Proof.Machine

namespace Sys2Proof

open Machine

/-- A tag as one byte: station in the high 3 bits, sequence in the low 5 (R190). -/
def Tag.byte (t : Tag) : Byte := BitVec.ofNat 3 t.station.val ++ t.seq

/-- The tag a byte stands for (R190). -/
def Tag.ofByte (b : Byte) : Tag :=
  { station := ⟨(b.extractLsb' 5 3).toNat, (b.extractLsb' 5 3).isLt⟩, seq := b.extractLsb' 0 5 }

end Sys2Proof

namespace Sys2Proof.Machine

/-- The class of a claim. -/
def ClaimKind.cls : ClaimKind → MotionClass
  | .rotate _ => .rotate | .lockTurn _ _ => .lockTurn | .crowdLoad _ => .crowdLoad
  | .stringMove _ => .stringMove | .spinOff => .spinOff | .casingTurn => .casingTurn

/-- The two parameter bytes of a claim as one word (R190). -/
def ClaimKind.params : ClaimKind → Word16
  | .rotate reverse => BitVec.ofNat 16 (bit reverse)
  | .lockTurn sec disengage => BitVec.ofNat 16 (sec * 256 + bit disengage)
  | .crowdLoad ceiling => BitVec.ofNat 16 ceiling
  | .stringMove raise => BitVec.ofNat 16 (bit raise)
  | .spinOff => 0
  | .casingTurn => 0

/-- The claim a class code and a parameter word name, within the ranges of R73. A parameter word that has not the form
R190 gives for the class is outside them (DEDUCED, log 15). -/
def ClaimKind.parse (cls : Byte) (params : Word16) : Option ClaimKind :=
  let p := params.toNat
  let sec := p / 256
  match MotionClass.ofCode cls with
  | some .rotate => if p ≤ 1 then some (.rotate (p = 1)) else none
  | some .lockTurn => if 2 ≤ sec ∧ sec ≤ 6 ∧ p % 256 ≤ 1 then some (.lockTurn sec (p % 256 = 1)) else none
  | some .crowdLoad => if p ≤ 800 then some (.crowdLoad p) else none
  | some .stringMove => if p ≤ 1 then some (.stringMove (p = 1)) else none
  | some .spinOff => if p = 0 then some .spinOff else none
  | some .casingTurn => if p = 0 then some .casingTurn else none
  | none => none

/-- The role that opens a class (R73). -/
def MotionClass.originator : MotionClass → Role
  | .rotate | .lockTurn | .spinOff => .rotary
  | .crowdLoad => .crowd
  | .stringMove => .hoist
  | .casingTurn => .casing

/-- The roles whose consent a class needs; CASING only where the muster map holds it (R73). -/
def MotionClass.consenters : MotionClass → List Role
  | .rotate => [.hoist, .panel]
  | .lockTurn => [.hoist, .crowd, .panel]
  | .crowdLoad => [.hoist, .rotary, .panel]
  | .stringMove => [.crowd, .rotary, .panel, .casing]
  | .spinOff => [.hoist, .panel, .casing]
  | .casingTurn => [.hoist, .panel]

/-- The station a muster map holds with a role: the lowest-numbered one (a closed map holds at most one, R54; log
29). -/
def stationOf (map : Eight RoleCode) (r : Role) : Option Station :=
  allStations.find? fun s => map.get s = r.code

/-- The consent set of a class under a muster map, as a station mask (R73). -/
def consentSetOf (map : Eight RoleCode) (c : MotionClass) : Byte :=
  stationMask fun s => c.consenters.any fun r => decide (stationOf map r = some s)

/-- The compatibility table of R74 over classes with their parameters. -/
def compatible (a b : ClaimKind) : Bool :=
  match a, b with
  | .rotate reverse, .crowdLoad _ => !reverse
  | .crowdLoad _, .rotate reverse => !reverse
  | .rotate _, .casingTurn | .casingTurn, .rotate _ => true
  | .lockTurn _ _, .casingTurn | .casingTurn, .lockTurn _ _ => true
  | .crowdLoad _, .casingTurn | .casingTurn, .crowdLoad _ => true
  | _, _ => false

/-- Membership of a class in a class mask (10-8). -/
def inClassMask (m : Byte) (c : MotionClass) : Bool := m.getLsbD c.code

/-! ### Watch patterns -/

/-- Byte `i` of an eight-byte value block, byte 0 first (R188). -/
def blockByte (block : BitVec 64) (i : Nat) : Byte := block.extractLsb' (56 - 8 * i) 8

/-- The signed value in the first four bytes of a value block (R188). -/
def blockValue (block : BitVec 64) : Int := (block.extractLsb' 32 32).toInt

/-- The signed 24-bit value in bytes 4 to 6 of a pattern block (R190). -/
def patternValue (block : BitVec 64) : Int := (block.extractLsb' 8 24).toInt

/-- A watch field from its code (R190). -/
def WatchField.ofCode (c : Nat) : Option WatchField :=
  [WatchField.mode, .flag 0, .flag 1, .flag 2, .flag 3, .flag 4, .primary, .secondary, .position][c]?

/-- A watch comparison from its code (10-8). -/
def WatchCompare.ofCode (c : Nat) : Option WatchCompare := [WatchCompare.equal, .above, .below][c]?

/-- A watch action from its code (10-8). -/
def WatchAction.ofCode (c : Nat) : Option WatchAction := [WatchAction.trip, .gate, .note][c]?

/-- The inconsistencies within one pattern (R50): a mode or flag compared otherwise than EQUAL, a mode value that is no
beaconing mode's code, a flag value other than 0 and 1, a value outside its range. -/
def Pattern.consistent (p : Pattern) : Bool :=
  decide (-150000 ≤ p.value) && decide (p.value ≤ 150000) &&
    match p.field with
    | .mode => decide (p.compare = .equal) && decide (5 ≤ p.value) && decide (p.value ≤ 9)
    | .flag _ => decide (p.compare = .equal) && (decide (p.value = 0) || decide (p.value = 1))
    | .primary | .secondary | .position => true

/-- A pattern value block (R190): `none` where it is refused, otherwise the slot's new contents. Bytes with no meaning
in the lists of 10-8 are refused (DEDUCED, log 16). -/
def parsePattern (block : BitVec 64) : Option (Option Pattern) :=
  match (blockByte block 0).toNat with
  | 0 => some none
  | 1 =>
    let st := (blockByte block 1).toNat
    match WatchField.ofCode (blockByte block 2).toNat, WatchCompare.ofCode (blockByte block 3).toNat,
        WatchAction.ofCode (blockByte block 7).toNat with
    | some f, some c, some a =>
      if st ≤ 8 then
        let p : Pattern :=
          { station := if h : st < 8 then some ⟨st, h⟩ else none, field := f, compare := c,
            value := patternValue block, action := a }
        if p.consistent then some (some p) else none
      else none
    | _, _, _ => none
  | _ => none

/-- The beacon field a watch pattern reads, as a number (R173). -/
def WatchField.read (f : WatchField) (b : BeaconRecord) : Int :=
  match f with
  | .mode => (b.mode.toNat : Int)
  | .flag i => ([bit b.atRest, bit b.stall, bit b.unkeyed, bit b.clearRefused, bit b.gated].getD i.val 0 : Nat)
  | .primary => b.primary
  | .secondary => b.secondary
  | .position => b.position

/-- Whether a pattern's comparison holds of a beacon (R173). -/
def Pattern.holdsOf (p : Pattern) (b : BeaconRecord) : Bool :=
  let v := p.field.read b
  match p.compare with
  | .equal => decide (v = p.value)
  | .above => decide (p.value < v)
  | .below => decide (v < p.value)

end Sys2Proof.Machine
end

