-- ==== Sys2Proof/Machine/Flags.lean ====
section
/-! DEFINITION. What the blocks read off the state without keeping it: the mode's group, the station's role and period,
the transmit queue's entries, the validity of the string copy, rest, own claims, the crowd permit, the starvation
conditions, the local conditions of a CLEAR, and which changes a reader of a record is told of. -/

namespace Sys2Proof.Machine

/-! ### Mode, role, period -/

/-- The beaconing modes: SAFED, RUN, PARKED, SAFE_DOWN and LOCKOUT (R42). -/
def Mode.beaconing : Mode → Bool
  | .safed | .run | .parked | .safeDown | .lockout => true
  | .start | .strapFault | .config | .muster | .musterFault => false

/-- The modes in which frames are received, checked and delivered (R42). -/
def Mode.receives : Mode → Bool
  | .config | .muster | .safed | .run | .parked | .safeDown | .lockout => true
  | .start | .strapFault | .musterFault => false

/-- The modes in which a frame asked for is placed in the transmit queue (R42). -/
def Mode.transmits : Mode → Bool
  | .muster | .safed | .run | .parked | .safeDown | .lockout => true
  | .start | .strapFault | .config | .musterFault => false

/-- The modes in which the Axis Interface reads its inputs: from the start of CONFIG (R117). -/
def Mode.readsAxis : Mode → Bool
  | .config | .muster | .musterFault | .safed | .run | .parked | .safeDown | .lockout => true
  | .start | .strapFault => false

/-- The station's own number (R46). -/
def State.own (s : State) : Station := s.muster.straps.station

/-- The station's role, where its code names one (R46). -/
def State.role (s : State) : Option Role := Role.ofCode s.muster.straps.role

/-- Whether the station has this role. -/
def State.isRole (s : State) (r : Role) : Bool := decide (s.role = some r)

/-- Whether the station drives an axis: HOIST, CROWD, ROTARY or CASING. -/
def State.hasAxis (s : State) : Bool :=
  match s.role with
  | some .hoist | some .crowd | some .rotary | some .casing => true
  | some .panel | none => false

/-- The station's period P in milliseconds (R46). -/
def State.period (s : State) : Nat := periodMs s.muster.straps.period

/-- The station that the muster map holds with a role. -/
def State.stationOf (s : State) (r : Role) : Option Station := Machine.stationOf s.muster.map r

/-- The peer entry of the station that holds a role, where the map holds one. -/
def State.peerOf (s : State) (r : Role) : Option PeerEntry := (s.stationOf r).map s.peers.get

/-- Whether the entry of the station that holds a role is FRESH (R71). -/
def State.freshRole (s : State) (r : Role) : Bool := decide ((s.peerOf r).map (·.admission) = some .fresh)

/-- Whether a station's frames are judged: entry AWAITING, FRESH or STALE (R24, R70, R80). -/
def Admission.member : Admission → Bool
  | .awaiting | .fresh | .stale => true
  | .absent | .lost | .foreign => false

/-! ### Axis inputs and readings -/

/-- The three inputs of a role's axis (R117). -/
inductive AxisPlace where
  | primary | secondary | position
deriving DecidableEq, Repr

/-- The valid range of a role's input, where the role has that input (R117). -/
def validRange : Role → AxisPlace → Option (Int × Int)
  | .hoist, .primary => some (-1500, 1500)
  | .hoist, .secondary => some (0, 1200)
  | .hoist, .position => some (0, 150000)
  | .crowd, .primary => some (-400, 800)
  | .crowd, .secondary => none
  | .crowd, .position => some (0, 20000)
  | .rotary, .primary => some (-300, 300)
  | .rotary, .secondary => some (0, 700)
  | .rotary, .position => none
  | .casing, .primary => some (-200, 200)
  | .casing, .secondary => some (0, 5000)
  | .casing, .position => some (0, 800)
  | .panel, _ => none

/-- The range of an input of this station; 0..0 where it has none. -/
def State.inputRange (s : State) (p : AxisPlace) : Int × Int :=
  (s.role.bind fun r => validRange r p).getD (0, 0)

/-- An input of the Axis Interface by its place. -/
def AxisInterface.input (a : AxisInterface) : AxisPlace → AxisInput
  | .primary => a.primary
  | .secondary => a.secondary
  | .position => a.position

/-- A free value within a range, for a measure no reading of which was ever taken (log 7). -/
def State.freeWithin (s : State) (range : Int × Int) (u : FreeUse) : Int :=
  limitTo range.1 range.2 (Config.freeReading s.freeCount u)

/-- The latest reading of an input; a free value within the input's range where none was ever taken (log 7). -/
def State.reading (s : State) (p : AxisPlace) (u : FreeUse) : Int :=
  (s.axis.input p).latest.getD (s.freeWithin (s.inputRange p) u)

/-! ### The transmit queue -/

/-- The queue's entries, the head slot's first (R31). -/
def LinkController.items (l : LinkController) : List TxItem :=
  match l.slot with
  | some slot => slot.item :: l.queue
  | none => l.queue

/-- The number of entries (R31). -/
def LinkController.count (l : LinkController) : Nat := l.items.length

/-- Whether a frame of the station's own is in transmission. -/
def LinkController.isSending (l : LinkController) : Bool :=
  match l.slot with
  | some slot => slot.sending.isSome
  | none => false

/-- Whether an entry of this kind stands in the queue. -/
def LinkController.holdsKind (l : LinkController) (k : FrameKind) : Bool := l.items.any (decide <| ·.kind = k)

/-- The own CLAIM frames still in the transmit queue (R76, R78). -/
def LinkController.queuedClaims (l : LinkController) : List (Tag × ClaimKind) :=
  l.items.filterMap fun i =>
    match i with
    | .claim t k => some (t, k)
    | _ => none

/-- The tag of a claim frame in the queue. -/
def TxItem.tag : TxItem → Option Tag
  | .revoke t _ | .release t _ | .refuse t _ | .grant t | .take t | .claim t _ => some t
  | .trip _ _ | .clear | .string | .beacon | .park _ | .muster => none

/-- A frame that answers a claim or takes it, purged when its entry leaves (R40). -/
def TxItem.isAnswer : TxItem → Bool
  | .grant _ | .refuse _ _ | .take _ | .revoke _ _ => true
  | .trip _ _ | .clear | .release _ _ | .claim _ _ | .string | .beacon | .park _ | .muster => false

/-- A claim frame, removed by a voiding (R41). -/
def TxItem.isClaimFrame : TxItem → Bool
  | .claim _ _ | .grant _ | .refuse _ _ | .take _ | .release _ _ | .revoke _ _ => true
  | .trip _ _ | .clear | .string | .beacon | .park _ | .muster => false

/-! ### The string as the station shows it -/

/-- The copy is valid while present, refreshed and the HOIST entry FRESH (R25). -/
def State.copyValid (s : State) : Bool := s.strings.copy.isSome && s.strings.refreshed && s.freshRole .hoist

/-- The string generation held (R35): `none` is NONE. -/
def State.generationHeld (s : State) : Option Byte :=
  if s.isRole .hoist then s.strings.record.map (·.generation)
  else if s.copyValid then s.strings.copy.map (·.generation)
  else none

/-- The load path as the station reads it: its record's in HOIST, otherwise its copy's, an invalid copy showing BROKEN
(R25). -/
def State.loadPathComplete (s : State) : Bool :=
  if s.isRole .hoist then (s.strings.record.map (·.loadComplete)).getD false
  else s.copyValid && (s.strings.copy.map (·.loadComplete)).getD false

/-- The certainty as the station reads it (R25). -/
def State.stringCertain (s : State) : Bool :=
  if s.isRole .hoist then (s.strings.record.map (·.certain)).getD false
  else s.copyValid && (s.strings.copy.map (·.certain)).getD false

/-! ### Rest -/

/-- The magnitude of a reading taken lies within a bound. -/
def AxisInput.within (a : AxisInput) (bound : Int) : Bool :=
  match a.latest with
  | some v => decide (-bound ≤ v ∧ v ≤ bound)
  | none => false

/-- The axis is at rest (R115). -/
def State.atRest (s : State) : Bool := s.axis.primary.within s.image.restBand

/-- The AT_REST flag of the beacon: always set for PANEL (R35). -/
def State.atRestFlag (s : State) : Bool := s.isRole .panel || s.atRest

/-- Some input's out-of-range mark is set (R172). -/
def AxisInterface.anyOutOfRange (a : AxisInterface) : Bool :=
  a.primary.outOfRange || a.secondary.outOfRange || a.position.outOfRange

/-! ### Claims -/

/-- Whether the station is an entry's originator. -/
def ClaimEntry.isOwn (e : ClaimEntry) (own : Station) : Bool := decide (e.tag.station = own)

/-- Whether the station is a party: originator or member of the consent set (R98). -/
def ClaimEntry.isParty (e : ClaimEntry) (own : Station) : Bool := e.isOwn own || inMask e.consentSet own

/-- Whether the entry is HELD. -/
def ClaimEntry.isHeld (e : ClaimEntry) : Bool := decide (e.state = .held)

/-- The entry with a tag (R75). -/
def ClaimEngine.find (c : ClaimEngine) (t : Tag) : Option ClaimEntry := c.table.find? (decide <| ·.tag = t)

/-- The first own HELD entry in table order. -/
def State.ownHeld (s : State) : Option ClaimEntry :=
  s.claims.table.find? fun e => e.isOwn s.own && e.isHeld

/-- The own HELD entry of a class, where there is one. -/
def State.ownHeldOf (s : State) (c : MotionClass) : Option ClaimEntry :=
  s.claims.table.find? fun e => e.isOwn s.own && e.isHeld && decide (e.kind.cls = c)

/-- The classes of the entries whose consent mark is set at this station (R84). -/
def State.consentClasses (s : State) : List MotionClass :=
  (s.claims.table.filter (·.consent)).map (·.kind.cls)

/-- A HOLD consent is applied: HOIST, LOCK_TURN or SPIN_OFF (R104, R105). -/
def State.holdsHold (s : State) : Bool :=
  s.isRole .hoist && s.consentClasses.any fun c => decide (c = .lockTurn ∨ c = .spinOff)

/-- A FOLLOW consent is held: HOIST, ROTATE or CROWD_LOAD (R104, R106). -/
def State.holdsFollow (s : State) : Bool :=
  s.isRole .hoist && s.consentClasses.any fun c => decide (c = .rotate ∨ c = .crowdLoad)

/-- The tags of the live entries in table order (R35). -/
def ClaimEngine.liveTags (c : ClaimEngine) : List Tag := c.table.map (·.tag)

/-! ### The crowd force permit and starvation -/

/-- The crowd force permit of R110. -/
def State.crowdPermit (s : State) : Bool :=
  s.isRole .crowd && (s.ownHeldOf .crowdLoad).isSome && s.copyValid && s.loadPathComplete && s.stringCertain
    && s.freshRole .rotary && !s.envelope.dropLatch

/-- The starvation conditions of R138. EMPTY is read with the run pointer absent, so that a segment put ends them at
once (log 33). The Segment Engine of a PANEL keeps its reset state (R122). -/
def State.starved (s : State) : Bool :=
  s.hasAxis && (s.claims.table.any fun e => e.isOwn s.own && e.isHeld && decide (e.kind.cls ≠ .lockTurn))
    && decide (s.segments.state = .empty) && s.segments.pointer.isNone && !s.lockTurn.stall

/-! ### The judgement of a CLEAR -/

/-- A local entry that needs acknowledgement and has none (R172). -/
def TripEntry.unacked (e : TripEntry) : Bool := e.isLocal && decide (e.cause ≠ .start) && !e.acked

/-- The reason for which a SAFED station refuses a CLEAR, by its code of 10-8, or `none` where it accepts (R172). -/
def State.clearRefusal (s : State) : Option Nat :=
  if s.trips.record.any (·.unacked) then some 0
  else if s.trips.stopActive then some 1
  else if s.axis.anyOutOfRange then some 2
  else if s.axis.limitMark then some 3
  else if s.isRole .hoist && s.strings.slackOver then some 4
  else if s.isRole .hoist && s.strings.mismatch then some 5
  else none

/-! ### Which changes a reader of a record is told of (R185) -/

/-- A peer entry's part that counts (R72). -/
def peerChanged (a b : PeerEntry) : Bool :=
  decide (a.admission ≠ b.admission) || decide (a.parkMask ≠ b.parkMask)

/-- The string record's or copy's part that counts (R185). -/
def stringChanged (a b : State) : Bool :=
  if b.isRole .hoist then
    decide (a.strings.record.map (fun r => (r.generation, r.certain))
        ≠ b.strings.record.map (fun r => (r.generation, r.certain)))
      || decide (a.strings.startPending ≠ b.strings.startPending)
  else decide (a.strings.refreshed ≠ b.strings.refreshed) || decide (a.copyValid ≠ b.copyValid)

/-- A claim table position's part that counts (R98, R185). -/
def claimKey (s : State) (i : Nat) : Option (Tag × Byte × ClaimState) :=
  (s.claims.table[i]?).map fun e => (e.tag, e.grants, e.state)

/-- The segment engine record's part that counts (R143). -/
def segmentKey (e : SegmentEngine) : EngineState × Option Nat × Option Nat × List Segment :=
  (e.state, e.pointer, e.mark, e.queue)

/-- The lock-turn record's parts that count (R158). -/
def lockTurnChanged (a b : LockTurnUnit) : Bool :=
  decide ((a.state, a.turn, a.armed, a.result) ≠ (b.state, b.turn, b.armed, b.result))
    || decide ((a.stallCount, a.stall, a.account, a.unkeyed) ≠ (b.stallCount, b.stall, b.account, b.unkeyed))

/-- The trip record's part that counts (R160, R185). -/
def tripKey (t : TripController) : List TripEntry × Bool × Eight Byte × Bool :=
  (t.record, t.clearRefused, t.matchSets, t.gated)

/-- The muster record's part that counts (R185). -/
def musterKey (s : State) : Eight RoleCode × Byte × Bool × Bool × Bool :=
  (s.muster.map, s.muster.dupRoles, s.muster.conflict, s.muster.peerFault, decide (s.mode = .muster))

/-- Whether the record of a selector differs between two states in a part that counts as a change (R185). -/
def recordChanged (sel : Nat) (a b : State) : Bool :=
  if h : sel < 8 then peerChanged (a.peers.get ⟨sel, h⟩) (b.peers.get ⟨sel, h⟩)
  else if sel = 8 then stringChanged a b
  else if sel ≤ 16 then decide (claimKey a (sel - 9) ≠ claimKey b (sel - 9))
  else if sel = 17 then decide (segmentKey a.segments ≠ segmentKey b.segments)
  else if sel = 18 then lockTurnChanged a.lockTurn b.lockTurn
  else if sel = 19 then decide (tripKey a.trips ≠ tripKey b.trips)
  else if sel = 20 then decide (musterKey a ≠ musterKey b)
  else false

end Sys2Proof.Machine
end

