-- ==== Sys2Proof/Machine/Ops.lean ====
section
/-! DEFINITION. The shared operations of the blocks: the work of one command in progress, the named updates of the
state, posting an event, handing a cause to the Trip Controller, entering events in the event queue at the command's
end (R181, R191), and placing a frame in the transmit queue (R31, R32). -/

namespace Sys2Proof.Machine

/-- The posting blocks, in the order in which their records enter the event queue (R191). The Host Port's RESET record,
which always stands alone, is posted with the Muster Unit's. -/
inductive Block where
  | tripController | musterUnit | claimEngine | lockTurnUnit | segmentEngine | stringTracker | peerView
  | envelopeUnit | linkController
deriving DecidableEq, Repr

/-- The blocks in the order of R191. -/
def Block.order : List Block :=
  [.tripController, .musterUnit, .claimEngine, .lockTurnUnit, .segmentEngine, .stringTracker, .peerView,
    .envelopeUnit, .linkController]

/-- One command in progress: the state, the events posted so far with their blocks, the causes handed to the Trip
Controller and not yet taken, and the selectors of records changed in a way the state itself does not show. -/
structure Work extends State where
  posts : List (Block × Event)
  raised : List CauseReport
  touched : List Nat
deriving DecidableEq, Repr

/-- A command begins. -/
def Work.begin (s : State) : Work := { toState := s, posts := [], raised := [], touched := [] }

namespace Work

/-! ### Named updates -/

/-- The station mode replaced. -/
def setMode (m : Mode) (w : Work) : Work := { w with mode := m }
/-- The Muster Unit updated. -/
def onMuster (f : MusterUnit → MusterUnit) (w : Work) : Work := { w with muster := f w.muster }
/-- The Link Controller updated. -/
def onLink (f : LinkController → LinkController) (w : Work) : Work := { w with link := f w.link }
/-- The peer table updated. -/
def onPeers (f : Eight PeerEntry → Eight PeerEntry) (w : Work) : Work := { w with peers := f w.peers }
/-- The Claim Engine updated. -/
def onClaims (f : ClaimEngine → ClaimEngine) (w : Work) : Work := { w with claims := f w.claims }
/-- The String Tracker updated. -/
def onStrings (f : StringTracker → StringTracker) (w : Work) : Work := { w with strings := f w.strings }
/-- The Envelope Unit updated. -/
def onEnvelope (f : EnvelopeUnit → EnvelopeUnit) (w : Work) : Work := { w with envelope := f w.envelope }
/-- The Segment Engine updated. -/
def onSegments (f : SegmentEngine → SegmentEngine) (w : Work) : Work := { w with segments := f w.segments }
/-- The Lock-Turn Unit updated. -/
def onLockTurn (f : LockTurnUnit → LockTurnUnit) (w : Work) : Work := { w with lockTurn := f w.lockTurn }
/-- The Trip Controller updated. -/
def onTrips (f : TripController → TripController) (w : Work) : Work := { w with trips := f w.trips }
/-- The Axis Interface updated. -/
def onAxis (f : AxisInterface → AxisInterface) (w : Work) : Work := { w with axis := f w.axis }
/-- One peer entry updated. -/
def onPeer (s : Station) (f : PeerEntry → PeerEntry) (w : Work) : Work :=
  w.onPeers fun t => t.set s (f (t.get s))
/-- The claim entry with a tag updated (R75). -/
def onEntry (t : Tag) (f : ClaimEntry → ClaimEntry) (w : Work) : Work :=
  w.onClaims fun c => { c with table := c.table.map fun e => if e.tag = t then f e else e }

/-- An operation made only where a condition holds. -/
def when (b : Bool) (f : Work → Work) (w : Work) : Work := if b then f w else w

/-- A block posts an event record (R181). -/
def post (b : Block) (e : Event) (w : Work) : Work := { w with posts := w.posts ++ [(b, e)] }

/-- A block hands a cause to the Trip Controller (R159). -/
def raise (c : CauseReport) (w : Work) : Work := { w with raised := w.raised ++ [c] }

/-- A record changed in a way that counts, though the state may not show it (R185). -/
def touch (selector : Nat) (w : Work) : Work := { w with touched := w.touched ++ [selector] }

end Work

/-! ### Events and causes by their parts -/

/-- An event of a kind with its parts; its stamp is taken when it enters the queue (R181). -/
def Event.of (k : EventKind) (station : Option Station := none) (tag : Option Tag := none) (sec : Option Nat := none)
    (code : Nat := 0) (aux : Nat := 0) (value : Nat := 0) : Event :=
  { kind := k, stamp := 0, station := station, tag := tag, sec := sec, code := code, aux := aux, value := value }

/-- A cause with its detail (R159). -/
def CauseReport.of (c : Cause) (detail : Nat := 0) (tag : Option Tag := none) (station : Option Station := none) :
    CauseReport :=
  { cause := c, detail := detail, tag := tag, station := station }

/-! ### The end of a command -/

/-- A record enters the event queue, or is discarded at a full one (R181, R183). -/
def HostPort.enter (e : Event) (h : HostPort) : HostPort :=
  if h.events.length < 32 then { h with events := h.events ++ [e], acked := false, attn := true }
  else { h with overrun := true }

/-- The records of a command in the order of R191, stamped with the moment of the command. -/
def Work.ordered (w : Work) : List Event :=
  Block.order.flatMap fun b =>
    (w.posts.filter (decide <| ·.1 = b)).map fun p => { p.2 with stamp := w.stamp }

/-- Whether the selected record changed in this command (R185, R186). -/
def Work.selectedChanged (old : State) (w : Work) : Bool :=
  match old.host.selection with
  | some sel => w.touched.contains sel || recordChanged sel old w.toState
  | none => false

/-- The Host Port after a command: its posts entered and the change mark set where the selected record changed. It
starts from the port as the command found it, since no block changes the port (R181, R185). -/
def HostPort.afterCommand (old : State) (w : Work) : HostPort :=
  let h := w.ordered.foldl (fun h e => h.enter e) old.host
  { h with changeMark := old.host.changeMark || w.selectedChanged old }

/-- A command ends: the state its work reached, with the Host Port told. The free-value counter advances, so that each
command asks for free values of its own (log 30). -/
def commit (old : State) (w : Work) : State :=
  { w.toState with host := HostPort.afterCommand old w, freeCount := old.freeCount + 1 }

/-! ### The transmit queue (R31, R32) -/

/-- An entry placed in its order: by kind priority, and within a kind in the order of queueing (R31). -/
def LinkController.insert (i : TxItem) (l : LinkController) : LinkController :=
  { l with
    queue := l.queue.takeWhile (fun j => decide (j.kind.code ≤ i.kind.code)) ++
      i :: l.queue.dropWhile (fun j => decide (j.kind.code ≤ i.kind.code)) }

/-- A frame asked for now would be placed (R32, R42). -/
def Work.canQueue (i : TxItem) (w : Work) : Bool :=
  w.mode.transmits && decide (w.link.count < 12) &&
    !(decide (i.kind = .muster) && w.link.holdsKind .muster)

/-- A block asks the Link Controller to place a frame: placed where there is room, LINK_JAM raised at a full queue; a
second MUSTER frame, and any frame in a mode that sends none, is not placed and raises nothing (R32, R42). -/
def Work.queueFrame (i : TxItem) (w : Work) : Work :=
  if w.canQueue i then w.onLink (·.insert i)
  else if w.mode.transmits && !(decide (i.kind = .muster) && w.link.holdsKind .muster) then
    w.raise (.of .linkJam (detail := i.kind.code))
  else w

/-- Entries removed from the queue that are not in transmission. A failed entry that holds the head goes with its
attempts; one in transmission stays and is removed if it fails (R40, R41). -/
def LinkController.remove (p : TxItem → Bool) (l : LinkController) : LinkController :=
  let l := { l with queue := l.queue.filter (fun i => !p i) }
  match l.slot with
  | some slot =>
    if p slot.item then
      match slot.sending with
      | some x => { l with slot := some { slot with sending := some { x with fate := .removedIfFailed } } }
      | none => { l with slot := none, attempts := 0 }
    else l
  | none => l

end Sys2Proof.Machine
end

