-- ==== Sys2Proof/Machine/Segments.lean ====
section
/-! DEFINITION. The Segment Engine: the queue and its bodies, placing and merging, running one control step, the demand
timer, abandonment and flushing (R122 to R143). -/

namespace Sys2Proof.Machine

/-! ### The queue and its bodies -/

/-- A segment that takes time: RAMP, LEVEL or DWELL. -/
def SegmentBody.timed : SegmentBody → Bool
  | .ramp _ _ | .level _ _ | .dwell _ => true
  | .mark | .again _ _ => false

/-- The position, counted from `i`, of the MARK left open by a stretch of the queue (R123): `m` is the open MARK found
so far. -/
def openMarkFrom : Nat → Option Nat → List Segment → Option Nat
  | _, m, [] => m
  | i, m, x :: l =>
    match x.body with
    | .mark => openMarkFrom (i + 1) (some i) l
    | .again _ _ => openMarkFrom (i + 1) none l
    | .ramp _ _ | .level _ _ | .dwell _ => openMarkFrom (i + 1) m l

/-- The position of the queue's open MARK (R123, R125). -/
def openMark (q : List Segment) : Option Nat := openMarkFrom 0 none q

/-- The position of the MARK of the body in which the segment at position `i` lies, where it lies in one. -/
def bodyMark (q : List Segment) (i : Nat) : Option Nat := openMark (q.take i)

/-- The position after the closing REPEAT of the body in which position `i` lies, or the queue's length where the body
is open. -/
def bodyEnd (q : List Segment) (i : Nat) : Nat :=
  let rest := q.drop i
  let j := rest.findIdx fun x => match x.body with
    | .again _ _ => true
    | .ramp _ _ | .level _ _ | .dwell _ | .mark => false
  min q.length (i + j + 1)

/-- A position that names a segment, or none. -/
def positionIn (q : List Segment) (i : Nat) : Option Nat := if i < q.length then some i else none

/-- Positions `a` up to `b` removed; the others keep their order (R123). -/
def cut (a b : Nat) (q : List Segment) : List Segment := q.take a ++ q.drop b

namespace SegmentEngine

/-- The current segment, begun or not. -/
def current (e : SegmentEngine) : Option Segment := e.pointer.bind fun i => e.queue[i]?

/-- The begun segment no longer begun, its counts at 0. -/
def unbegun (e : SegmentEngine) : SegmentEngine := { e with begun := false, remaining := 0, accumulation := 0 }

/-! ### Placing (R124 to R126) -/

/-- A segment placed at the tail (R124). -/
def place (b : SegmentBody) (e : SegmentEngine) : SegmentEngine :=
  { e with
    queue := e.queue ++ [{ body := b, completed := false }],
    pointer := e.pointer.or (some e.queue.length) }

/-- The count of a DWELL at the tail of the queue. -/
def tailDwell (e : SegmentEngine) : Option Nat :=
  match e.queue.getLast? with
  | some x => match x.body with
    | .dwell c => some c
    | .ramp _ _ | .level _ _ | .mark | .again _ _ => none
  | none => none

/-- A DWELL of count `n` merged into the DWELL of count `c` at the tail (R126). -/
def merge (c n : Nat) (e : SegmentEngine) : SegmentEngine :=
  let i := e.queue.length - 1
  { e with
    queue := e.queue.modify i fun x => { x with body := .dwell (held16 (c + n)) },
    remaining := if e.begun && decide (e.pointer = some i) then held16 (e.remaining + n) else e.remaining }

/-- The sequence check of R125 fails. -/
def badSequence (b : SegmentBody) (e : SegmentEngine) : Bool :=
  match b with
  | .mark => (openMark e.queue).isSome
  | .again _ _ =>
    match openMark e.queue with
    | none => true
    | some m => decide (m + 1 = e.queue.length)
  | .ramp _ _ | .level _ _ | .dwell _ => false

/-! ### Running (R130 to R137) -/

/-- A body removed whole, from its MARK at `m` to its end at `b` (R136, R139). -/
def removeBody (m b : Nat) (e : SegmentEngine) : SegmentEngine :=
  let q := cut m b e.queue
  { e with queue := q, mark := none, pointer := positionIn q m }

/-- A REPEAT at position `i` taken (R136). -/
def takeRepeat (i base : Nat) (cur : Option Nat) (e : SegmentEngine) : SegmentEngine :=
  let m := (bodyMark e.queue i).getD 0
  match cur.getD base with
  | 0 => e.removeBody m (i + 1)
  | c + 1 =>
    let q := e.queue.mapIdx fun j x => if m < j ∧ j < i then { x with completed := false } else x
    { e with
      queue := q.modify i fun x => { x with body := .again base (some c) },
      pointer := e.mark.or (some (m + 1)) }

/-- Segments taken from the run pointer onward until a time-taking one begins or the tail is passed (R130, R134,
R136). The fuel bounds the zero-time segments of one step; 40 exceeds what 16 segments can hold. -/
def takeSegments : Nat → SegmentEngine → SegmentEngine
  | 0, e => e
  | n + 1, e =>
    match e.pointer with
    | none => e
    | some i =>
      match e.queue[i]? with
      | none => { e with pointer := none }
      | some x =>
        match x.body with
        | .mark => takeSegments n { e with mark := some (i + 1), pointer := positionIn e.queue (i + 1) }
        | .again base cur => takeSegments n (e.takeRepeat i base cur)
        | .level _ c | .dwell c => { e with begun := true, remaining := c, accumulation := 0 }
        | .ramp _ _ => { e with begun := true, remaining := 0, accumulation := 0 }

/-- The current segment, at position `i`, completes (R137). -/
def complete (i : Nat) (e : SegmentEngine) : SegmentEngine :=
  match bodyMark e.queue i with
  | some _ =>
    { e.unbegun with
      queue := e.queue.modify i fun x => { x with completed := true }, pointer := positionIn e.queue (i + 1) }
  | none =>
    let q := e.queue.eraseIdx i
    { e.unbegun with queue := q, pointer := positionIn q i }

/-- One millisecond of a begun LEVEL or DWELL at position `i` counted, with its completion (R135). -/
def count (period i : Nat) (e : SegmentEngine) : SegmentEngine :=
  if e.accumulation + 1 < period then { e with accumulation := e.accumulation + 1 }
  else
    let e := { e with accumulation := 0, remaining := e.remaining - 1 }
    if e.remaining = 0 then e.complete i else e

/-- The begun segment acts in a RUNNING step (R131, R132, R133). -/
def act (period : Nat) (e : SegmentEngine) : SegmentEngine :=
  match e.pointer with
  | none => e
  | some i =>
    match e.queue[i]? with
    | some ⟨.ramp target rate, _⟩ =>
      let e := { e with value := moveToward e.value (target * 1000) rate }
      if e.value = target * 1000 then e.complete i else e
    | some ⟨.level target _, _⟩ => ({ e with value := target * 1000 } : SegmentEngine).count period i
    | some ⟨.dwell _, _⟩ => e.count period i
    | some ⟨.mark, _⟩ | some ⟨.again _ _, _⟩ | none => e

/-- A RUNNING step (R130). -/
def run (period : Nat) (e : SegmentEngine) : SegmentEngine :=
  let e := if e.begun then e else e.takeSegments 40
  if e.begun then e.act period else e

/-! ### Abandonment and flushing (R139, R140) -/

/-- The stretch of the queue that an abandonment of the segment at position `i` removes (R139). -/
def abandonRange (i : Nat) (e : SegmentEngine) : Nat × Nat :=
  match bodyMark e.queue i with
  | some m => (m, bodyEnd e.queue i)
  | none => (i, i + 1)

/-- The current segment at position `i` abandoned (R139). -/
def abandoned (i : Nat) (e : SegmentEngine) : SegmentEngine :=
  let r := e.abandonRange i
  (e.unbegun).removeBody r.1 r.2

/-- The queue flushed (R140). -/
def flushed (e : SegmentEngine) : SegmentEngine :=
  { e.unbegun with queue := [], pointer := none, mark := none }

end SegmentEngine

namespace Work

/-- The current segment abandoned, if one has begun, for an entry with this tag (R139). -/
def abandonSegment (tag : Tag) (w : Work) : Work :=
  if w.segments.begun then
    match w.segments.pointer, w.segments.current with
    | some i, some x =>
      let r := w.segments.abandonRange i
      (w.onSegments (·.abandoned i)).post .segmentEngine
        (.of .segmentAbandoned (tag := some tag) (code := x.body.code) (value := r.2 - r.1))
    | _, _ => w
  else w

/-- A flush, for the host's command (0) or on a trip (1) (R140). Each one counts as a change of the record, that of an
empty queue too (R143). -/
def flushSegments (cause : Nat) (w : Work) : Work :=
  let n := w.segments.queue.length
  ((w.onSegments (·.flushed)).touch 17).when (decide (0 < n)) fun w =>
    w.post .segmentEngine (.of .segmentsFlushed (aux := cause) (value := n))

/-- The engine state of a step, the envelope being the one the engine takes (R127, R129). -/
def engineState (env : Int × Int) (w : Work) : EngineState :=
  if w.segments.pointer.isNone then .empty
  else if decide (w.mode ≠ .run) || w.lockTurn.stall then .frozen
  else if w.isRole .rotary && (w.ownHeldOf .lockTurn).isSome then .suspended
  else if env = (0, 0) then .waiting
  else .running

/-- The demand timer of a step: it falls while the starvation conditions hold and raises DEMAND_STARVED at 0 (R138). -/
def demandTimerStep (w : Work) : Work :=
  match w.segments.demandTimer with
  | some n =>
    if w.starved then
      if n ≤ 1 then
        (w.onSegments fun e => { e with demandTimer := none }).raise
          (.of .demandStarved (tag := w.ownHeld.map (·.tag)))
      else w.onSegments fun e => { e with demandTimer := some (n - 1) }
    else w
  | none => w

/-- The Segment Engine's part of a control step (R127): its state, its action, and the limiting of R128. -/
def segmentStep (w : Work) : Work :=
  if w.hasAxis then
    let env := if w.envelope.followOn then (0, 0) else (w.envelope.low, w.envelope.high)
    let st := w.engineState env
    let w := w.onSegments fun e => { e with state := st }
    let w := w.when (decide (st = .running)) (·.onSegments (·.run w.period))
    let w := w.onSegments fun e => { e with value := limitTo (1000 * env.1) (1000 * env.2) e.value }
    w.demandTimerStep
  else w

end Work

end Sys2Proof.Machine
end

