-- ==== Sys2Proof/Machine/Strings.lean ====
section
/-! DEFINITION. The String Tracker: slack accounting, the distribution of extension, certainty, the generation, the
start state, lock-turn results and doubt, unkeying, and the queueing of STRING frames (R2 to R23). -/

namespace Sys2Proof.Machine

/-! ### Sections -/

/-- Whether a section's extension is held fixed in the distribution (R4). -/
def SectionEntry.fixed (e : SectionEntry) : Bool :=
  match e.lock with
  | .seated _ | .doubtful => true
  | .retracted | .free => false

/-- Whether a section passes crowd force (R4). -/
def SectionEntry.passes (e : SectionEntry) : Bool :=
  match e.lock with
  | .retracted | .seated _ => true
  | .free | .doubtful => false

/-- A section not held fixed: RETRACTED at extension 0, FREE above it (R4, R10). -/
def SectionEntry.loose (ext : Int) : SectionEntry :=
  { lock := if ext = 0 then .retracted else .free, ext := ext }

/-- A section DOUBTFUL at the extension it holds (R4). -/
def SectionEntry.doubt (e : SectionEntry) : SectionEntry := { e with lock := .doubtful }

/-- The sum of the extensions of a list of sections. -/
def extSum (l : List SectionEntry) : Int := (l.map (·.ext)).sum

/-- The sum of the extensions of the sections held fixed (R10). -/
def fixedSum (l : List SectionEntry) : Int := extSum (l.filter (·.fixed))

/-- The sum of the strokes of the sections not held fixed, the first of the list being section `k` (R11). -/
def freeStrokes (g : Image) : Nat → List SectionEntry → Int
  | _, [] => 0
  | k, e :: l => (if e.fixed then 0 else g.stroke k) + freeStrokes g (k + 1) l

/-- The remainder `r` dealt out innermost first over sections `k`, `k+1`, …: the sections after, and what is left for
those outside them (R10). -/
def deal (g : Image) : Nat → List SectionEntry → Int → List SectionEntry × Int
  | _, [], r => ([], r)
  | k, e :: l, r =>
    let inner := deal g (k + 1) l r
    if e.fixed then (e :: inner.1, inner.2)
    else
      let x := min (g.stroke k) inner.2
      (SectionEntry.loose x :: inner.1, inner.2 - x)

/-! ### The record -/

/-- The load path of a record (R14). -/
def StringRecord.pathComplete (r : StringRecord) : Bool := r.certain && r.sections.all (·.passes)

/-- The record with its load path re-evaluated (R14). -/
def StringRecord.withPath (r : StringRecord) : StringRecord := { r with loadComplete := r.pathComplete }

/-- The record with E and the tool depth taken from its sections (R10, R15). -/
def StringRecord.withTotals (g : Image) (sledge : Int) (r : StringRecord) : StringRecord :=
  { r with total := extSum r.sections, depth := g.depthOffset + sledge + extSum r.sections }

/-- Section `k` of a record, where it has one. -/
def StringRecord.sectionAt (r : StringRecord) (k : Nat) : Option SectionEntry :=
  if 2 ≤ k then r.sections[k - 2]? else none

/-- Section `k` of a record changed; no section where the record has no section `k`. -/
def StringRecord.onSection (k : Nat) (f : SectionEntry → SectionEntry) (r : StringRecord) : StringRecord :=
  if 2 ≤ k then { r with sections := r.sections.modify (k - 2) f } else r

/-- The record of R17. -/
def StringRecord.initial (g : Image) : StringRecord where
  generation := 0
  count := g.sectionCount
  sections := List.replicate (g.sectionCount - 1) { lock := .doubtful, ext := 0 }
  total := 0
  slack := 0
  loadComplete := false
  certain := false
  depth := g.depthOffset

/-- Whether a measurement lies outside the band of W around what the sections can take (R11, R18). -/
def outsideBand (g : Image) (remainder room : Int) : Bool :=
  decide (remainder < -g.window) || decide (room + g.window < remainder)

/-- One recomputation (R10): the record dealt out anew, and whether it found a mismatch (R11). -/
def StringRecord.recomputed (g : Image) (measured sledge : Int) (r : StringRecord) : StringRecord × Bool :=
  let remainder := measured - fixedSum r.sections
  let r' := { r with sections := (deal g 2 r.sections (max 0 remainder)).1 }
  ((r'.withTotals g sledge).withPath, outsideBand g remainder (freeStrokes g 2 r.sections))

/-- The start rule (R18): the start state, and whether it found a mismatch. -/
def StringRecord.started (g : Image) (measured sledge : Int) (r : StringRecord) : StringRecord × Bool :=
  let bare := r.sections.map fun _ => SectionEntry.loose 0
  if -g.window ≤ measured ∧ measured ≤ g.window then
    ((({ r with sections := bare }).withTotals g sledge).withPath, false)
  else
    let dealt := (deal g 2 bare (max 0 measured)).1.map SectionEntry.doubt
    ((({ r with sections := dealt }).withTotals g sledge).withPath, outsideBand g measured (freeStrokes g 2 bare))

/-- The numbers of the sections whose lock state or pocket index differs between two records (R16). -/
def changedSections (a b : StringRecord) : List Nat :=
  ((List.range b.sections.length).filter fun i =>
    decide ((a.sections[i]?).map (·.lock) ≠ (b.sections[i]?).map (·.lock))).map (· + 2)

/-- Whether the generation advances between two records (R16). -/
def generationMoves (a b : StringRecord) : Bool :=
  !(changedSections a b).isEmpty || decide (a.loadComplete ≠ b.loadComplete) || decide (a.certain ≠ b.certain)

/-- The nearest pocket of section `k` within W of an extension, the lower index where two are equally near (R19). -/
def nearestPocket (g : Image) (k : Nat) (ext : Int) : Option Nat :=
  (List.range (g.pocketCount k)).foldl
    (fun best i =>
      let d := (g.pocket k i - ext).natAbs
      if g.window < d then best
      else
        match best with
        | some j => if d < (g.pocket k j - ext).natAbs then some i else best
        | none => some i)
    none

/-- A section SEATED in one of its pockets (R4). -/
def SectionEntry.seatedAt (g : Image) (k i : Nat) : SectionEntry :=
  { lock := .seated ⟨i % 4, Nat.mod_lt _ (by decide)⟩, ext := g.pocket k i }

/-- Section `k` after a lock-turn result (R19). -/
def lockResult (g : Image) (k : Nat) (disengage : Bool) (res : ReleaseResult) (e : SectionEntry) : SectionEntry :=
  match res, disengage with
  | .done, false =>
    match nearestPocket g k e.ext with
    | some i => SectionEntry.seatedAt g k i
    | none => e.doubt
  | .done, true => SectionEntry.loose e.ext
  | .failedAngle, false | .failedTime, false => e
  | _, _ => e.doubt

/-- Whether a lock-turn result finds no pocket to seat in (R11, R19). -/
def noPocket (g : Image) (k : Nat) (disengage : Bool) (res : ReleaseResult) (e : SectionEntry) : Bool :=
  !disengage && decide (res = .done) && (nearestPocket g k e.ext).isNone

/-- A section after unkeying (R21). -/
def SectionEntry.unkeyed (e : SectionEntry) : SectionEntry := if e.fixed then SectionEntry.loose e.ext else e

/-! ### The tracker's operations -/

namespace Work

/-- The payout the measured extension is computed from: the last one taken, or the Axis Interface's where the tracker
has taken none, or a free value (R10, log 7). -/
def payoutTaken (w : Work) : Int := w.strings.lastPayout.getD (w.reading .position .measuredPayout)

/-- The sledge position taken (R6); a free value within its range where none was (log 7). -/
def sledgeTaken (w : Work) : Int :=
  w.strings.lastSledge.getD (w.freeWithin (0, 20000) .sledgePosition)

/-- The measured extension (R10). -/
def measured (r : StringRecord) (w : Work) : Int :=
  w.payoutTaken - w.image.restPayout - w.sledgeTaken - r.slack

/-- A cause to queue a STRING frame (R22). -/
def requestString (w : Work) : Work :=
  if w.strings.record.isSome && w.mode.beaconing && !w.strings.queued then
    (w.queueFrame .string).when (w.canQueue .string) (·.onStrings fun t => { t with queued := true })
  else w

/-- A mismatch found: the mark set and STRING_MISMATCH raised where the mark was clear (R11). -/
def findMismatch (w : Work) : Work :=
  if w.strings.mismatch then w
  else (w.onStrings fun t => { t with mismatch := true }).raise (.of .stringMismatch)

/-- What a recomputation found (R11). -/
def judgeMismatch (found : Bool) (w : Work) : Work :=
  if found then w.findMismatch else w.onStrings fun t => { t with mismatch := false }

/-- E differs by 10 mm or more from the reference (R22). -/
def totalMoved (r : StringRecord) (t : StringTracker) : Bool :=
  match t.refTotal with
  | some e => decide (10 ≤ (r.total - e).natAbs)
  | none => true

/-- The record replaced after one event: the generation advances where the event changed what it counts, STRING_CHANGE
is posted and a STRING frame asked for (R16, R22). The event names a section where exactly one section's lock state or
pocket index differs, whatever else changed with it (DESIGN CHOICE, log 46). `recomputed` says that the event held a
recomputation. -/
def storeRecord (old new : StringRecord) (recomputed : Bool) (w : Work) : Work :=
  if generationMoves old new then
    let g := old.generation + 1
    let sec := match changedSections old new with
      | [k] => some k
      | _ => none
    let w := w.onStrings fun t => { t with record := some { new with generation := g } }
    (w.post .stringTracker (.of .stringChange (sec := sec) (value := g.toNat))).requestString
  else
    let w := w.onStrings fun t => { t with record := some new }
    w.when (recomputed && totalMoved new w.strings) requestString

/-- One event on the record: a change, the recomputation that follows it while the record is CERTAIN, and the load
path (R10, R14, R16; one event in all, log 36). On an UNCERTAIN record, whose E and tool depth R12 holds, an ENGAGE that
seats a section moves its extension alone (R4, R19): E is then not the sum of R2 (DESIGN CHOICE, log 45). -/
def changeRecord (f : StringRecord → StringRecord) (w : Work) : Work :=
  match w.strings.record with
  | some r =>
    let r1 := (f r).withPath
    if r1.certain then
      let out := r1.recomputed w.image (w.measured r1) w.sledgeTaken
      (w.judgeMismatch out.2).storeRecord r out.1 true
    else w.storeRecord r r1 false
  | none => w

/-- A recomputation of its own (R10). -/
def recompute (w : Work) : Work :=
  match w.strings.record with
  | some r => if r.certain then w.changeRecord id else w
  | none => w

/-- HOIST's record made present at the entry into SAFED (R17). -/
def recordPresent (w : Work) : Work :=
  let w := w.onStrings fun t =>
    { t with
      record := some (StringRecord.initial w.image), startPending := true, mismatch := false, slackOver := false,
      interval := some (8 * w.period) }
  w.requestString

/-- The CROWD entry leaves FRESH: the record becomes UNCERTAIN (R12). -/
def recordUncertain (w : Work) : Work :=
  match w.strings.record with
  | some r => if r.certain then w.changeRecord (fun r => { r with certain := false }) else w
  | none => w

/-- The start state is taken (R18). Its mismatch raises STRING_MISMATCH where the mismatch-active mark is clear, as R11
has it for a recomputation, and one that fits leaves the mark (DESIGN CHOICE, log 48). -/
def applyStart (r : StringRecord) (w : Work) : Work :=
  let out := ({ r with certain := true } : StringRecord).started w.image (w.measured r) w.sledgeTaken
  let w := w.onStrings fun t => { t with startPending := false }
  (w.when out.2 findMismatch).storeRecord r out.1 true

/-- An admitted CROWD beacon at HOIST: its sledge position is taken; the record is recomputed, or becomes CERTAIN
where the beacon made the entry FRESH (R6, R13, R18). -/
def crowdBeacon (sledge : Int) (becameFresh : Bool) (w : Work) : Work :=
  let w := w.onStrings fun t => { t with lastSledge := some sledge }
  match w.strings.record with
  | some r =>
    if r.certain then w.recompute
    else if becameFresh then
      if w.strings.startPending then w.applyStart r else w.changeRecord fun r => { r with certain := true }
    else w
  | none => w

/-- A lock-turn result applied to section `k` (R19). -/
def applyLockResult (k : Nat) (disengage : Bool) (res : ReleaseResult) (w : Work) : Work :=
  match w.strings.record.bind (·.sectionAt k) with
  | some e =>
    let w := w.when (noPocket w.image k disengage res e) findMismatch
    w.changeRecord (·.onSection k (lockResult w.image k disengage res))
  | none => w

/-- Section `k` marked DOUBTFUL (R20). -/
def markDoubtful (k : Nat) (w : Work) : Work :=
  match w.strings.record.bind (·.sectionAt k) with
  | some _ => w.changeRecord (·.onSection k SectionEntry.doubt)
  | none => w

/-- An admitted ROTARY beacon with UNKEYED at HOIST (R21). -/
def unkey (w : Work) : Work :=
  match w.strings.record with
  | some r =>
    let n := (r.sections.filter (·.fixed)).length
    if n = 0 then w
    else
      (w.post .stringTracker (.of .unkey (value := n))).changeRecord fun r =>
        { r with sections := r.sections.map SectionEntry.unkeyed }
  | none => w

/-! ### Slack accounting -/

/-- The slack payout after a step, from the change of payout and whether the string hangs on the rope (R7, R8). -/
def slackAfter (hangs : Bool) (change slack : Int) : Int :=
  if hangs then 0 else if 0 ≤ change then slack + change else max 0 (slack + change)

/-- The slack-over-limit mark follows the slack payout; SLACK_ROPE on its rise above the limit (R9). -/
def judgeSlack (slack : Int) (w : Work) : Work :=
  if w.image.slackLimit < slack then
    if w.strings.slackOver then w
    else (w.onStrings fun t => { t with slackOver := true }).raise (.of .slackRope)
  else w.onStrings fun t => { t with slackOver := false }

/-- The slack payout of the step (R7 to R9). The step that takes the first payout reading is the starting point
(R5). -/
def slackStep (r : StringRecord) (w : Work) : Work :=
  match w.strings.lastPayout, w.axis.position.latest with
  | some p0, some p =>
    let hangs := decide (w.image.hangThreshold ≤ w.reading .secondary .slackTension)
    let slack := slackAfter hangs (p - p0) r.slack
    let w := w.when (hangs && decide (0 < r.slack)) fun w =>
      w.post .stringTracker (.of .stringShift (value := held16 r.slack.toNat))
    (w.onStrings fun t => { t with record := some { r with slack := slack } }).judgeSlack slack
  | _, _ => w

/-- The String Tracker's part of a control step (R5, R7 to R10). -/
def stringStep (w : Work) : Work :=
  match w.strings.record with
  | some r =>
    let w := w.slackStep r
    let w := w.onStrings fun t =>
      { t with
        lastPayout := w.axis.position.latest.or t.lastPayout,
        lastTension := w.axis.secondary.latest.or t.lastTension }
    w.recompute
  | none => w

end Work

end Sys2Proof.Machine
end

