-- ==== Sys2Proof/Machine/Requests.lean ====
section
/-! DEFINITION. What other blocks ask of the Claim Engine about a live entry: a release (R89) and a revoke (R92). -/

namespace Sys2Proof.Machine

/-- Entries withdrawn from the queue, except one in transmission, which completes and is judged (R89). -/
def LinkController.withdraw (p : TxItem → Bool) (l : LinkController) : LinkController :=
  if l.isSending then { l with queue := l.queue.filter (fun i => !p i) } else l.remove p

/-- Whether an entry stands in the queue that is not in transmission. -/
def LinkController.waits (i : TxItem) (l : LinkController) : Bool :=
  l.queue.contains i || (!l.isSending && decide (l.slot.map (·.item) = some i))

namespace Work

/-- A release of an own live entry asked for, with its result (R89). -/
def requestRelease (tag : Tag) (res : ReleaseResult) (w : Work) : Work :=
  match w.claims.find tag with
  | some e =>
    if e.isOwn w.own && !e.releasePending then
      let w := w.onEntry tag fun e => { e with releasePending := true }
      let w := w.when (w.link.waits (.take tag)) fun w =>
        (w.onLink (·.withdraw (decide <| · = .take tag))).onEntry tag fun e => { e with takeQueued := false }
      w.queueFrame (.release tag res)
    else w
  | none => w

/-- A revoke of a consent asked for, with its reason (R92). The mark is set with the frame that is queued (log 13). -/
def requestRevoke (tag : Tag) (reason : Reason) (w : Work) : Work :=
  match w.claims.find tag with
  | some e =>
    if e.consent && !e.revokeQueued then
      (w.queueFrame (.revoke tag reason)).when (w.canQueue (.revoke tag reason))
        (·.onEntry tag fun e => { e with revokeQueued := true })
    else w
  | none => w

/-- A revoke asked for each live entry that satisfies a test (R92, R102, R103, R175), in table order, which is the order
of the REVOKEs in the transmit queue (DESIGN CHOICE, log 49). -/
def revokeEach (p : ClaimEntry → Bool) (reason : Reason) (w : Work) : Work :=
  w.claims.table.foldl (fun w e => if p e then w.requestRevoke e.tag reason else w) w

end Work

end Sys2Proof.Machine
end

