-- ==== Sys2Proof/Machine/Rotary.lean ====
section
/-! DEFINITION. The Lock-Turn Unit: lock turns, stall, the rotation account and the reverse angle (R144 to R158). -/

namespace Sys2Proof.Machine

/-- A value in thousandths lies within a range of whole units. -/
def withinRange (range : Int × Int) (v : Int) : Bool := decide (1000 * range.1 ≤ v ∧ v ≤ 1000 * range.2)

/-- The originator envelope of a lock turn (R108). -/
def turnEnvelope (g : Image) (disengage : Bool) : Int × Int :=
  if disengage then (-g.lockSpeed, 0) else (0, g.lockSpeed)

/-- The rotation account a class opens (R155). -/
def ClaimKind.account : ClaimKind → RotationAccount
  | .rotate false => .rotateForward
  | .rotate true => .rotateReverse
  | .lockTurn _ _ => .lockTurn
  | .spinOff => .spinOff
  | .crowdLoad _ => .crowdLoad
  | .stringMove _ => .stringMove
  | .casingTurn => .casingTurn

/-- The turned angle after a step that turned `moved` microdegrees (R147), within its 0..90 000 000 (R144). -/
def turnedAfter (disengage : Bool) (moved : Int) (angle : Nat) : Nat :=
  min 90000000 ((angle : Int) + (if disengage then -moved else moved)).toNat

/-- The result a TURNING step finds (R147, R148): the torque, where one has been read, has been armed before the
test. -/
def turnResult (g : Image) (disengage armed : Bool) (torque : Option Int) (angle timer : Nat) :
    Option ReleaseResult :=
  let spent := decide (g.lockAngle * 1000000 ≤ angle)
  let risen := armed && (torque.map fun t => decide (g.seatTorque ≤ t)).getD false
  let late := decide (timer = 0)
  if disengage then
    if risen then some .failedBound else if spent then some .done else if late then some .failedTime else none
  else
    if spent then some .failedAngle else if risen then some .done else if late then some .failedTime else none

/-- The reverse angle accumulator after a step (R155): it holds at 3600 degrees. -/
def reverseAfter (account : RotationAccount) (moved : Int) (angle : Nat) : Nat :=
  match account with
  | .rotateReverse | .spinOff => if moved < 0 then min 3600000000 (angle + moved.natAbs) else angle
  | .none | .rotateForward | .lockTurn | .crowdLoad | .stringMove | .casingTurn => angle

/-- The unit back in IDLE (R150). -/
def LockTurnUnit.idled (u : LockTurnUnit) : LockTurnUnit :=
  { u with
    state := .idle, turn := none, angle := 0, timer := 0, timerRunning := false, armed := false, turnSpeed := 0,
    result := none }

namespace Work

/-- The angle turned in a step, in microdegrees: 600 for each unit of the latest speed reading; none where none has
been taken (R145). -/
def angleMoved (w : Work) : Int := 600 * w.axis.primary.latest.getD 0

/-- The demand of the last step lies within a turn's envelope (R146). -/
def demandFits (disengage : Bool) (w : Work) : Bool :=
  withinRange (turnEnvelope w.image disengage) w.envelope.demand

/-- A turn begins (R146). -/
def beginTurn (tag : Tag) (sec : Nat) (disengage : Bool) (w : Work) : Work :=
  let st := if w.demandFits disengage then LockTurnState.turning else .settling
  let speed := 1000 * w.image.lockSpeed
  let w := w.onLockTurn fun u =>
    { u with
      state := st, turn := some { tag := tag, sec := sec, disengage := disengage }, angle := 0, armed := false,
      timer := w.image.lockTurnTime, timerRunning := true, turnSpeed := if disengage then -speed else speed,
      result := none }
  w.post .lockTurnUnit (.of .lockTurnBegun (tag := some tag) (sec := some sec) (code := bit disengage))

/-- An own entry becomes HELD at ROTARY (R146, R152, R155). -/
def rotaryHeld (e : ClaimEntry) (w : Work) : Work :=
  if w.isRole .rotary then
    let w := w.onLockTurn fun u => { u with account := e.kind.account }
    match e.kind with
    | .lockTurn sec disengage => w.beginTurn e.tag sec disengage
    | .rotate false => w.onLockTurn fun u => { u with stallCount := 0 }
    | .rotate true | .crowdLoad _ | .stringMove _ | .spinOff | .casingTurn => w
  else w

/-- The accumulator returned to 0, and UNKEYED with it (R149, R156). -/
def clearReverse (w : Work) : Work :=
  let w := w.when w.lockTurn.unkeyed (·.post .lockTurnUnit (.of .unkeyed (code := 1)))
  w.onLockTurn fun u => { u with reverseAngle := 0, unkeyed := false }

/-- A result is found (R149). -/
def findResult (turn : Turn) (res : ReleaseResult) (w : Work) : Work :=
  let w := w.when (decide (res = .done) && !turn.disengage) clearReverse
  let w := w.onLockTurn fun u => { u with result := some res, timerRunning := false, state := .stopping }
  let w := w.post .lockTurnUnit
    (.of .lockTurnResult (tag := some turn.tag) (sec := some turn.sec) (code := res.code))
  w.requestRelease turn.tag res

/-- In STOPPING the turn speed moves toward 0 (R149). -/
def stoppingRamp (w : Work) : Work :=
  w.when (decide (w.lockTurn.state = .stopping))
    (·.onLockTurn fun u => { u with turnSpeed := moveToward u.turnSpeed 0 w.image.withdrawRate })

/-- The unit's step in SETTLING, after the demand is formed (R146). The timer falls first (log 25). -/
def settlingStep (turn : Turn) (w : Work) : Work :=
  let w := w.onLockTurn fun u => { u with timer := u.timer - 1 }
  if w.lockTurn.timer = 0 then w.findResult turn .failedTime
  else w.when (w.demandFits turn.disengage) (·.onLockTurn fun u => { u with state := .turning })

/-- The unit's step in TURNING (R147, R148). -/
def turningStep (turn : Turn) (w : Work) : Work :=
  let torque := w.axis.secondary.latest
  let w := w.onLockTurn fun u =>
    { u with
      timer := u.timer - 1, angle := turnedAfter turn.disengage w.angleMoved u.angle,
      armed := u.armed || (torque.map fun t => decide (t < w.image.seatTorque)).getD false }
  match turnResult w.image turn.disengage w.lockTurn.armed torque w.lockTurn.angle w.lockTurn.timer with
  | some res => w.findResult turn res
  | none => w

/-- The reverse angle of a step, and UNKEYED where it first reaches the free angle (R155, R156). -/
def reverseStep (w : Work) : Work :=
  let w := w.onLockTurn fun u => { u with reverseAngle := reverseAfter u.account w.angleMoved u.reverseAngle }
  w.when (decide (w.image.freeAngle * 1000000 ≤ w.lockTurn.reverseAngle) && !w.lockTurn.unkeyed) fun w =>
    (w.onLockTurn fun u => { u with unkeyed := true }).post .lockTurnUnit (.of .unkeyed (code := 0))

/-- The unit's part of a control step after the demand is formed (R144). -/
def lockTurnStep (w : Work) : Work :=
  if w.isRole .rotary then
    let w := match w.lockTurn.state, w.lockTurn.turn with
      | .settling, some turn => w.settlingStep turn
      | .turning, some turn => w.turningStep turn
      | _, _ => w
    w.reverseStep
  else w

/-- STALL sets, under the own HELD ROTATE FORWARD with this tag (R153). -/
def setStall (tag : Tag) (w : Work) : Work :=
  (w.onLockTurn fun u => { u with stall := true }).post .lockTurnUnit (.of .stall (tag := some tag) (code := 0))

/-- The own ROTATE FORWARD that is HELD (R152). -/
def heldForward (w : Work) : Option ClaimEntry :=
  w.claims.table.find? fun e => e.isOwn w.own && e.isHeld && decide (e.kind = .rotate false)

/-- Stall counted from an own taken beacon's torque (R152, R153). -/
def countStall (torque : Int) (w : Work) : Work :=
  match w.heldForward with
  | some e =>
    if w.isRole .rotary && !w.lockTurn.stall then
      if w.image.stallTorque ≤ torque then
        let w := w.onLockTurn fun u => { u with stallCount := u.stallCount + 1 }
        w.when (decide (w.image.stallPeriods ≤ w.lockTurn.stallCount)) (·.setStall e.tag)
      else w.onLockTurn fun u => { u with stallCount := 0 }
    else w
  | none => w

/-- STALL clears when the ROTATE FORWARD with this tag leaves the table (R154). -/
def clearStall (tag : Tag) (w : Work) : Work :=
  w.when w.lockTurn.stall fun w =>
    (w.onLockTurn fun u => { u with stall := false, stallCount := 0 }).post .lockTurnUnit
      (.of .stall (tag := some tag) (code := 1))

/-- The turn of the entry with this tag ends: `lost` is the detail of an abort, `result` the result a RELEASE carried
(R150). -/
def endTurn (tag : Tag) (lost : Nat) (result : Option ReleaseResult) (w : Work) : Work :=
  match w.lockTurn.turn with
  | some turn =>
    if turn.tag = tag then
      let done := decide (w.lockTurn.state = .stopping)
      let detail := if done then 4 else lost
      let w := w.when (!(done && result.isSome && decide (result = w.lockTurn.result)))
        (·.post .lockTurnUnit (.of .lockTurnAborted (tag := some tag) (sec := some turn.sec) (code := detail)))
      w.onLockTurn (·.idled)
    else w
  | none => w

end Work

end Sys2Proof.Machine
end

