-- ==== Sys2Proof/Machine/Endings.lean ====
section
/-! DEFINITION. How an entry leaves the claim table, with everything its leaving does at this station, and the voiding
of the table on a trip (R40, R41, R84, R90 to R95, R110, R139, R150, R154). -/

namespace Sys2Proof.Machine

/-- The ways in which an entry leaves the table (R90, R91, R93, R95). -/
inductive Removal where
  | released (result : ReleaseResult) | refused | revoked | voided
deriving DecidableEq, Repr

/-- The detail of LOCK_TURN_ABORTED that a removal gives (R150, 10-8). -/
def Removal.abortCode : Removal → Nat
  | .released _ => 0 | .refused => 1 | .revoked => 2 | .voided => 3

/-- The result a removal carries, where it is a RELEASE. -/
def Removal.result : Removal → Option ReleaseResult
  | .released r => some r
  | .refused | .revoked | .voided => none

/-- Whether a removal ends the motion short, so that the begun segment of a HELD entry is abandoned (R93, R95, R139). -/
def Removal.abandons : Removal → Bool
  | .refused | .revoked | .voided => true
  | .released _ => false

namespace Work

/-- The entry with a tag removed from its place (R75). -/
def dropEntry (tag : Tag) (w : Work) : Work :=
  w.onClaims fun c => { c with table := c.table.filter (decide <| ·.tag ≠ tag) }

/-- The answers queued for a tag purged (R40). -/
def purgeAnswers (tag : Tag) (w : Work) : Work :=
  w.onLink (·.remove fun i => i.isAnswer && decide (i.tag = some tag))

/-- The end of a CROWD_LOAD at its own CROWD station: the force demand drops to 0 and the drop latch clears (R110). -/
def crowdEnded (e : ClaimEntry) (w : Work) : Work :=
  w.when (w.isRole .crowd && e.isOwn w.own && decide (e.kind.cls = .crowdLoad))
    (·.onEnvelope fun v => { v with demand := 0, dropLatch := false })

/-- The end of a LOCK_TURN in HOIST's table: a lock-turn result is applied; a HELD entry that leaves without one marks
its section DOUBTFUL (R19, R20). -/
def lockTurnEnded (e : ClaimEntry) (how : Removal) (w : Work) : Work :=
  match e.kind with
  | .lockTurn k disengage =>
    match how.result with
    | some r =>
      if r.isLockTurn then w.applyLockResult k disengage r else w.when e.isHeld (·.markDoubtful k)
    | none => w.when e.isHeld (·.markDoubtful k)
  | .rotate _ | .crowdLoad _ | .stringMove _ | .spinOff | .casingTurn => w

/-- The end of an own entry at the Lock-Turn Unit (R150, R154). -/
def rotaryEnded (e : ClaimEntry) (how : Removal) (w : Work) : Work :=
  w.when (e.isOwn w.own) fun w =>
    (w.endTurn e.tag how.abortCode how.result).when (decide (e.kind = .rotate false)) (·.clearStall e.tag)

/-- The end of an own HELD entry at the Segment Engine (R93, R95, R139 to R141). -/
def segmentsEnded (e : ClaimEntry) (how : Removal) (w : Work) : Work :=
  w.when (e.isOwn w.own && e.isHeld && how.abandons) fun w =>
    (w.abandonSegment e.tag).when (decide (how = .voided)) (·.flushSegments 1)

/-- What the leaving of an entry does in the other blocks (R90 to R95). -/
def entryEnded (e : ClaimEntry) (how : Removal) (w : Work) : Work :=
  (((w.crowdEnded e).rotaryEnded e how).segmentsEnded e how).when (w.isRole .hoist) (·.lockTurnEnded e how)

/-- An entry removed by a delivered frame (R40, R90, R91, R93). -/
def removeEntry (e : ClaimEntry) (how : Removal) (w : Work) : Work :=
  ((w.dropEntry e.tag).purgeAnswers e.tag).entryEnded e how

/-- The own CLAIM frames that a voiding withdraws: those not in transmission (R41, R79). -/
def claimsToWithdraw (w : Work) : List Tag :=
  ((if w.link.isSending then { w.link with slot := none } else w.link).queuedClaims).map (·.1)

/-- The claim table voided (R95). -/
def voidTable (w : Work) : Work :=
  let table := w.claims.table
  let mine := w.claimsToWithdraw
  let w := w.onLink (·.remove TxItem.isClaimFrame)
  let w := w.onClaims fun c => { c with table := [] }
  let w := table.foldl (fun w e => w.entryEnded e .voided) w
  let w := w.when (!table.isEmpty || !mine.isEmpty)
    (·.post .claimEngine (.of .claimVoided (value := table.length)))
  mine.foldl (fun w t => w.post .claimEngine (.of .claimWithdrawn (tag := some t) (code := 0))) w

end Work

end Sys2Proof.Machine
end

