-- ==== Sys2Proof/Machine/Trips.lean ====
section
/-! DEFINITION. The Trip Controller: the trip record, what a cause and a received trip do in each mode, safe-down,
lockout and CLEAR (R159 to R172), and the end of a command: the causes it raised are taken, and what follows the state
at once is brought up to it (R25, R110, R138). -/

namespace Sys2Proof.Machine

/-- Whether a cause is fault-class (R159); the others are stop-class. -/
def Cause.isFault (c : Cause) : Bool :=
  match c with
  | .limit | .sensorFault | .slackRope | .stringMismatch | .linkFault | .linkJam | .safeDownTimeout => true
  | .start | .demandStarved | .peerLostInClaim | .claimDivergence | .watchMatch | .hostTrip | .stopInput => false

/-- A list without its oldest peer entry. -/
def dropOldestPeer : List TripEntry → List TripEntry
  | [] => []
  | e :: l => if e.isLocal then e :: dropOldestPeer l else l

/-- An entry entered in the trip record, with its disposition (R161). A received trip that repeats a peer entry is a
DUPLICATE at a full record too (DEDUCED, log 42). -/
def enterTrip (e : TripEntry) (l : List TripEntry) : List TripEntry × Disposition :=
  if !e.isLocal && l.any (fun x => !x.isLocal && decide (x.origin = e.origin ∧ x.cause = e.cause)) then
    (l, .duplicate)
  else if l.length < 4 then (l ++ [e], .recorded)
  else if e.isLocal && l.any (!·.isLocal) then (dropOldestPeer l ++ [e], .replacedPeer)
  else (l, .discarded)

namespace Work

/-- The event TRIP (R161): the origin in its station field, and the cause's tag where it has one (log 11). -/
def postTrip (origin : Station) (cause : Cause) (tag : Option Tag) (d : Disposition) (after : Mode) (w : Work) :
    Work :=
  w.post .tripController
    (.of .trip (station := some origin) (tag := tag) (code := Cause.code cause) (aux := d.code) (value := after.code))

/-- A cause or received trip recorded and its event posted (R161). -/
def recordTrip (e : TripEntry) (tag : Option Tag) (after : Mode) (w : Work) : Work :=
  let out := enterTrip e w.trips.record
  (w.onTrips fun t => { t with record := out.1 }).postTrip e.origin e.cause tag out.2 after

/-- The axis set at rest: the demand at the rest value, the brake set and the valve output 0 (R114, R116, R119; at once
with the mode, log 24). -/
def setAtRest (w : Work) : Work :=
  (w.onEnvelope fun v => { v with demand := 0 }).onAxis fun a => { a with brakeSet := true, valve := 0 }

/-- The safe-down completes (R166). -/
def completeSafeDown (w : Work) : Work :=
  let w := ((w.setMode .safed).setAtRest).onTrips fun t => { t with safeDownTimer := none, restCount := 0 }
  w.post .tripController (.of .safed)

/-- The mode in which a trip taken in RUN or PARKED leaves the station: SAFE_DOWN, and for PANEL, whose safe-down
completes at once, SAFED (R163, R165). -/
def trippedMode (w : Work) : Mode := if w.isRole .panel then .safed else .safeDown

/-- The entry into SAFE_DOWN, but for its record (R163): `tell` queues the TRIP of a local cause in its place. -/
def enterSafeDown (tell : Work → Work) (w : Work) : Work :=
  let w := (w.setMode .safeDown).onTrips fun t => { t with ownParkMask := none }
  let w := tell ((w.voidTable).flushSegments 1)
  let w := w.onTrips fun t => { t with safeDownTimer := some w.image.safeDownLimit, restCount := 0 }
  w.when (w.isRole .panel) completeSafeDown

/-- The entry into LOCKOUT on a cause, but for its record (R168). -/
def enterLockout (c : Cause) (w : Work) : Work :=
  let w := ((w.setMode .lockout).setAtRest).voidTable
  let w := (w.flushSegments 1).queueFrame (.trip w.own c)
  let w := w.onTrips fun t => { t with safeDownTimer := none, restCount := 0 }
  w.post .tripController (.of .lockout (code := Cause.code c))

/-- The TRIP of a cause recorded in SAFED. One refused for want of room raises LINK_JAM, but for the TRIP of a LINK_JAM
(log 12). -/
def tellSafed (c : Cause) (w : Work) : Work :=
  if decide (c = .linkJam) && !w.canQueue (.trip w.own c) then w else w.queueFrame (.trip w.own c)

/-- A cause of the station's own taken (R162). -/
def takeCause (c : CauseReport) (w : Work) : Work :=
  let w := w.onTrips fun t => { t with lastCause := some c }
  let e : TripEntry := { origin := w.own, cause := c.cause, isLocal := true, acked := false }
  match w.mode with
  | .config | .muster => w.recordTrip e c.tag w.mode
  | .safed => (w.recordTrip e c.tag .safed).tellSafed c.cause
  | .run | .parked =>
    (w.recordTrip e c.tag w.trippedMode).enterSafeDown fun w => w.queueFrame (.trip w.own c.cause)
  | .safeDown =>
    if Cause.isFault c.cause then (w.recordTrip e c.tag .lockout).enterLockout c.cause
    else if c.cause = .watchMatch then w.postTrip w.own c.cause c.tag .notRecorded .safeDown
    else w.recordTrip e c.tag .safeDown
  | .lockout | .musterFault => w.postTrip w.own c.cause c.tag .notRecorded w.mode
  | .start | .strapFault => w

/-- A TRIP frame delivered in a beaconing mode from a peer (R164, R95). -/
def receiveTrip (origin : Station) (cause : Cause) (w : Work) : Work :=
  let e : TripEntry := { origin := origin, cause := cause, isLocal := false, acked := false }
  match w.mode with
  | .run | .parked => (w.recordTrip e none w.trippedMode).enterSafeDown id
  | .safed | .safeDown => (w.recordTrip e none w.mode).voidTable
  | .lockout => (w.postTrip origin cause none .notRecorded .lockout).voidTable
  | .start | .strapFault | .config | .muster | .musterFault => w

/-- A CLEAR taken by the Trip Controller (R171, R172). -/
def takeClear (w : Work) : Work :=
  let w := (w.when w.trips.clearRefused (·.touch 19)).onTrips fun t => { t with clearRefused := false }
  if w.mode = .safed then
    match w.clearRefusal with
    | none =>
      ((w.setMode .run).onTrips fun t => { t with record := [] }).post .tripController (.of .cleared)
    | some r =>
      (w.onTrips fun t => { t with clearRefused := true }).post .tripController (.of .clearRefused (code := r))
  else w

/-- Own beacons counted toward the completion of the safe-down (R166): `atRest` is the flag the beacon carried. -/
def countRest (atRest : Bool) (w : Work) : Work :=
  if w.mode = .safeDown then
    if atRest && decide (w.envelope.demand = 0) then
      if 2 ≤ w.trips.restCount + 1 then w.completeSafeDown
      else w.onTrips fun t => { t with restCount := t.restCount + 1 }
    else w.onTrips fun t => { t with restCount := 0 }
  else w

/-! ### The end of a command -/

/-- The causes raised, taken in the order in which they were raised, with those their taking raises (R159). -/
def settleFor : Nat → Work → Work
  | 0, w => w
  | n + 1, w =>
    match w.raised with
    | [] => w
    | c :: rest => settleFor n (takeCause c { w with raised := rest })

/-- Every cause raised so far taken. 64 exceeds what one command can raise: a cause leads to at most a few more, each
in a mode nearer LOCKOUT, where nothing more is raised. -/
def settle (w : Work) : Work := w.settleFor 64

/-- The crowd force permit fails for a reason other than the removal of its entry: the crowd drop (R110). -/
def crowdDrop (w : Work) : Work :=
  let code := if !w.freshRole .rotary then 0 else if !w.copyValid then 1 else 2
  (w.onEnvelope fun v => { v with dropLatch := true, demand := if 0 < v.demand then 0 else v.demand }).post
    .envelopeUnit (.of .crowdDrop (code := code))

/-- The crowd force permit after a command (R110, log 9). -/
def syncPermit (old : State) (w : Work) : Work :=
  w.when (old.crowdPermit && !w.crowdPermit && (w.ownHeldOf .crowdLoad).isSome) crowdDrop

/-- The copy's validity after a command (R25). -/
def syncCopy (old : State) (w : Work) : Work :=
  if old.copyValid = w.copyValid then w
  else w.post .stringTracker (.of (if w.copyValid then .copyValid else .copyInvalid))

/-- The starvation conditions after a command (R138): they begin, they cease, or nothing changes (log 33). -/
def syncStarvation (old : State) (w : Work) : Work :=
  if w.starved then
    if old.starved then w
    else
      (w.onSegments fun e => { e with demandTimer := some w.image.demandTimeout }).post .segmentEngine
        (.of .queueEmpty (tag := w.ownHeld.map (·.tag)))
  else w.onSegments fun e => { e with demandTimer := none }

/-- What follows the state at once is brought up to it. -/
def sync (old : State) (w : Work) : Work := ((w.syncCopy old).syncPermit old).syncStarvation old

end Work

/-- A command ends: its causes taken, its consequences drawn, its events entered (R159, R191). -/
def finish (old : State) (w : Work) : State := commit old (w.settle.sync old)

end Sys2Proof.Machine
end

