-- ==== Sys2Proof/Machine/Envelope.lean ====
section
/-! DEFINITION. The Envelope Unit and the Axis Interface: grant and hold conditions, consent and originator envelopes,
follow, the keyed stop, relief, the combined envelope, the demand, the inputs, the brake and the valve (R99 to R119). -/

namespace Sys2Proof.Machine

/-! ### Grant conditions (R100, R101) -/

/-- A condition on the latest reading of an input: not met where none has been taken or the input's mark is set. -/
def AxisInput.meets (a : AxisInput) (p : Int → Bool) : Bool := !a.outOfRange && (a.latest.map p).getD false

/-- The magnitude of a value is at or below a bound. -/
def atMost (bound v : Int) : Bool := decide (-bound ≤ v ∧ v ≤ bound)

/-- HOIST's grant condition for LOCK_TURN (R101). -/
def State.grantsLockTurn (k : Nat) (disengage : Bool) (s : State) : Bool :=
  match s.strings.record with
  | some r =>
    match r.sectionAt k with
    | some e =>
      r.certain && s.axis.secondary.meets (fun t => decide (s.image.hangThreshold ≤ t)) &&
        match e.lock, disengage with
        | .free, false | .doubtful, false => (nearestPocket s.image k e.ext).isSome
        | .seated _, true | .doubtful, true => true
        | _, _ => false
    | none => false
  | none => false

/-- HOIST's grant conditions (R100). -/
def State.hoistGrants (kind : ClaimKind) (s : State) : Bool :=
  match kind with
  | .rotate _ => s.stringCertain && (decide (s.envelope.demand = 0) || s.envelope.followOn)
  | .lockTurn k disengage => s.grantsLockTurn k disengage
  | .crowdLoad _ => s.loadPathComplete
  | .spinOff =>
    s.stringCertain && (s.strings.record.map fun r => decide (r.depth ≤ s.image.surfaceMark)).getD false
  | .casingTurn => true
  | .stringMove _ => false

/-- The grant condition of the station's role for a claim (R100). A role that is no consenter of the class is never
asked; "not met" stands there (log 29). -/
def State.grantCondition (kind : ClaimKind) (s : State) : Bool :=
  match s.role, kind with
  | some .hoist, _ => s.hoistGrants kind
  | some .crowd, .lockTurn _ _ | some .crowd, .stringMove _ => s.axis.primary.meets (atMost s.image.slackForce)
  | some .rotary, .crowdLoad _ => s.axis.primary.meets fun v => decide (-s.image.creepRotary ≤ v)
  | some .rotary, .stringMove _ => s.axis.primary.meets (atMost s.image.creepRotary)
  | some .casing, .stringMove _ | some .casing, .spinOff => s.axis.primary.meets (atMost s.image.restBand)
  | some .panel, _ => inClassMask s.envelope.enableSet kind.cls && s.envelope.deadManHeld
  | _, _ => false

/-! ### Envelopes (R104 to R112) -/

/-- The intersection of two ranges. -/
def meetRange (a b : Int × Int) : Int × Int := (max a.1 b.1, min a.2 b.2)

/-- The consent envelope of the station's role for a claim, where it has one (R104 to R106). -/
def State.consentEnvelope (s : State) (kind : ClaimKind) : Option (Int × Int) :=
  match s.role, kind with
  | some .hoist, .rotate _ | some .hoist, .crowdLoad _ =>
    some (-s.image.followSpeedLimit, s.image.followSpeedLimit)
  | some .hoist, .lockTurn _ _ | some .hoist, .spinOff => some (0, 0)
  | some .hoist, .casingTurn => some (-s.image.creepHoist, s.image.creepHoist)
  | some .crowd, .lockTurn _ _ | some .crowd, .stringMove _ => some (0, 0)
  | some .rotary, .crowdLoad _ => some (0, 300)
  | some .rotary, .stringMove _ => some (0, 0)
  | some .casing, .stringMove _ | some .casing, .spinOff => some (0, 0)
  | _, _ => none

/-- The crowd ceiling for a claim's force-ceiling parameter (R110, R111). -/
def State.crowdCeiling (s : State) (ceiling : Nat) : Int :=
  if s.crowdPermit then min (ceiling : Int) (s.image.maxForce * s.envelope.relief / 1000) else 0

/-- The originator envelope of an own HELD claim (R108); `keyed` says that the keyed stop holds the raise (R109). R108
gives a station of another role than the class's originator no envelope: the rest value stands there (log 37). -/
def State.originatorEnvelope (s : State) (keyed : Bool) (kind : ClaimKind) : Int × Int :=
  if s.isRole kind.cls.originator then
    match kind with
    | .rotate false => if s.lockTurn.stall then (0, 0) else (0, 300)
    | .rotate true => (-300, 0)
    | .lockTurn _ disengage => turnEnvelope s.image disengage
    | .spinOff => (-s.image.spinLimit, s.image.spinLimit)
    | .crowdLoad c => (0, s.crowdCeiling c)
    | .stringMove false => (0, 1500)
    | .stringMove true => if keyed then (0, 0) else (-1500, 0)
    | .casingTurn => (-200, 200)
  else (0, 0)

/-- The combined envelope (R112). -/
def State.combinedEnvelope (s : State) (keyed : Bool) : Int × Int :=
  if s.mode = .run ∧ s.hasAxis = true then
    let own := s.claims.table.filterMap fun e =>
      if e.isOwn s.own && e.isHeld then some (s.originatorEnvelope keyed e.kind) else none
    let consents := s.claims.table.filterMap fun e => if e.consent then s.consentEnvelope e.kind else none
    let rest := if own.isEmpty && !s.envelope.followOn then [((0 : Int), (0 : Int))] else []
    (own ++ consents ++ rest).foldl meetRange (s.image.hardLow, s.image.hardHigh)
  else (0, 0)

/-- The keyed stop's condition (R109): an own HELD STRING_MOVE RAISE, nothing extended that is free, and a section
held fixed. -/
def State.keyedActs (s : State) : Bool :=
  (s.claims.table.any fun e => e.isOwn s.own && e.isHeld && decide (e.kind = .stringMove true)) &&
    match s.strings.record with
    | some r => r.sections.any (·.fixed) && decide (extSum (r.sections.filter (!·.fixed)) = 0)
    | none => false

/-- The relief factor in permille for a torque (R111). -/
def reliefOf (t1 t2 torque : Int) : Nat :=
  if torque ≤ t1 then 1000 else if t2 ≤ torque then 0 else (1000 * (t2 - torque) / (t2 - t1)).toNat

/-- The demand of a step (R113): the target limited to the envelope from within it, the withdraw ramp from outside. -/
def nextDemand (env : Int × Int) (target rate demand : Int) : Int :=
  let lo := 1000 * env.1
  let hi := 1000 * env.2
  if lo ≤ demand ∧ demand ≤ hi then limitTo lo hi target
  else if demand < lo then min lo (demand + rate)
  else max hi (demand - rate)

namespace Work

/-- HOIST's hold conditions in RUN and PARKED (R103). -/
def holdStep (w : Work) : Work :=
  w.when (w.isRole .hoist && decide (w.mode = .run ∨ w.mode = .parked)) fun w =>
    let taut := (w.axis.secondary.latest.map fun t => decide (w.image.hangThreshold ≤ t)).getD false
    let w := w.revokeEach (fun e => e.consent && decide (e.kind.cls = .lockTurn) && !taut) .tensionLost
    w.revokeEach (fun e => e.consent && decide (e.kind.cls = .crowdLoad) && !w.loadPathComplete) .loadPath

/-- The follow aim, in thousandths (R107). -/
def followAim (w : Work) : Int :=
  let tension := w.reading .secondary .followTension
  1000 * limitTo (-w.image.followSpeedLimit) w.image.followSpeedLimit (5 * (tension - w.image.followTension))

/-- The follow state and the follow target of a step (R106, R107). -/
def followStep (w : Work) : Work :=
  if decide (w.mode = .run) && w.holdsFollow && !w.holdsHold then
    let w := w.when (!w.envelope.followOn) fun w =>
      (w.onEnvelope fun v => { v with followOn := true, followTarget := v.demand }).post .envelopeUnit
        (.of .follow (code := 1))
    w.onEnvelope fun v => { v with followTarget := moveToward v.followTarget w.followAim w.image.withdrawRate }
  else
    w.when w.envelope.followOn fun w =>
      (w.onEnvelope fun v => { v with followOn := false, followTarget := 0 }).post .envelopeUnit
        (.of .follow (code := 0))

/-- The keyed stop begins (R109). -/
def keyedBegins (w : Work) : Work :=
  w.when (w.keyedActs && !w.envelope.keyedStop) fun w =>
    (w.onEnvelope fun v => { v with keyedStop := true }).post .envelopeUnit (.of .keyedStop)

/-- The relief factor from ROTARY's stored torque, 0 while its entry is not FRESH (R71, R111). -/
def reliefNow (w : Work) : Nat :=
  match w.peerOf .rotary with
  | some p =>
    match p.admission, p.beacon with
    | .fresh, some b => reliefOf w.image.reliefOnset w.image.reliefEnd b.secondary
    | _, _ => 0
  | none => 0

/-- The relief factor of a CROWD station computed anew (R111). -/
def reliefStep (w : Work) : Work :=
  w.when (w.isRole .crowd) (·.onEnvelope fun v => { v with relief := w.reliefNow })

/-- The keyed stop and the combined envelope of a step (R109, R112). A raise held by the keyed stop opens at the step
after the stop ceases. -/
def envelopeStep (w : Work) : Work :=
  let env := w.combinedEnvelope (w.keyedActs || w.envelope.keyedStop)
  let w := w.keyedBegins
  w.onEnvelope fun v => { v with low := env.1, high := env.2, keyedStop := w.keyedActs }

/-- The target of the demand (R113). -/
def target (w : Work) : Int :=
  if w.envelope.followOn then w.envelope.followTarget
  else if w.isRole .rotary && (w.ownHeldOf .lockTurn).isSome then w.lockTurn.turnSpeed
  else w.segments.value

/-- The combined envelope that governs the demand of a step: the rest value alone where a cause taken within the step
has left RUN (R112, R114). -/
def stepEnvelope (w : Work) : Int × Int := if w.mode = .run then (w.envelope.low, w.envelope.high) else (0, 0)

/-- The demand of a step (R113, R165). `before` is the mode at the start of the step: the safe-down ramp begins at the
step after the entry into SAFE_DOWN (R163). -/
def demandStep (before : Mode) (w : Work) : Work :=
  if w.hasAxis then
    if w.mode = .safeDown then
      w.when (decide (before = .safeDown))
        (·.onEnvelope fun v => { v with demand := moveToward v.demand 0 w.image.safeDownRate })
    else
      w.onEnvelope fun v =>
        { v with demand := nextDemand w.stepEnvelope w.target w.image.withdrawRate v.demand }
  else w

/-- Whether the brake is released (R116). The demand is tested to its thousandths, not rounded as R99 rounds it for the
valve (DEDUCED, log 41). -/
def brakeReleased (w : Work) : Bool :=
  w.hasAxis && decide (w.mode = .run ∨ w.mode = .safeDown)
    && !(w.holdsHold && decide (w.envelope.demand = 0))
    && (decide (w.envelope.demand ≠ 0) || w.envelope.followOn)

/-- The span of a role's quantity (R119); PANEL has none and its output is 0. -/
def span (w : Work) : Int :=
  match w.role with
  | some .hoist => 3000
  | some .crowd => 1200
  | some .rotary => 600
  | some .casing => 400
  | some .panel | none => 1

/-- The error in permille of the span, rounded toward 0 (R119). The Axis Interface sees the demand rounded toward the
rest value (R99). -/
def valveError (w : Work) : Int :=
  ((wholeUnits w.envelope.demand - w.reading .primary .valvePrimary) * 1000).tdiv w.span

/-- The brake and the valve output of a step (R116, R119). -/
def outputStep (w : Work) : Work :=
  let released := w.brakeReleased
  w.onAxis fun a =>
    { a with
      brakeSet := !released,
      valve := if released then limitTo (-1000) 1000 (a.valve + w.valveError) else 0 }

/-! ### The inputs (R117, R118, R169) -/

/-- One input read: the reading taken in range, its mark set and SENSOR_FAULT raised on the first out of it (R117).
`index` is the input's code (10-8). -/
def readInput (place : AxisPlace) (index : Nat) (raw : Int) (w : Work) : Work :=
  match w.role.bind fun r => validRange r place with
  | some range =>
    let old := w.axis.input place
    let inRange := decide (range.1 ≤ raw ∧ raw ≤ range.2)
    let new : AxisInput := if inRange then { latest := some raw, outOfRange := false }
      else { old with outOfRange := true }
    let w := w.onAxis fun a =>
      match place with
      | .primary => { a with primary := new }
      | .secondary => { a with secondary := new }
      | .position => { a with position := new }
    w.when (!inRange && !old.outOfRange) (·.raise (.of .sensorFault (detail := index)))
  | none => w

/-- The index of the position input among the role's inputs: CROWD has no secondary (R117). -/
def positionIndex (w : Work) : Nat := if w.isRole .crowd then 1 else 2

/-- The inputs of the role read (R117). -/
def readInputs (inputs : AxisInputs) (w : Work) : Work :=
  ((w.readInput .primary 0 inputs.primary).readInput .secondary 1 inputs.secondary).readInput .position
    w.positionIndex inputs.position

/-- The hard limits compared with the latest primary reading (R118). -/
def limitStep (w : Work) : Work :=
  match w.hasAxis, w.axis.primary.latest with
  | true, some v =>
    if v < w.image.hardLow ∨ w.image.hardHigh < v then
      if w.axis.limitMark then w
      else
        (w.onAxis fun a => { a with limitMark := true }).raise
          (.of .limit (detail := if v < w.image.hardLow then 0 else 1))
    else w.onAxis fun a => { a with limitMark := false }
  | _, _ => w

/-- The STOP line sampled at a level (R169): an assertion raises STOP_INPUT, a negation clears the mark. -/
def sampleStop (level : Bool) (w : Work) : Work :=
  if level then
    if w.trips.stopActive then w
    else (w.onTrips fun t => { t with stopActive := true }).raise (.of .stopInput)
  else w.onTrips fun t => { t with stopActive := false }

end Work

end Sys2Proof.Machine
end

