-- ==== Sys2Proof/Machine/Watch.lean ====
section
/-! DEFINITION. The watch list: match sets, what a match's beginning does, and the gate (R173 to R175). -/

namespace Sys2Proof.Machine

/-- The eight pattern numbers in order. -/
def allPatterns : List (Fin 8) := [0, 1, 2, 3, 4, 5, 6, 7]

/-- Whether a pattern is evaluated on beacons of a station (R173). -/
def Pattern.watches (p : Pattern) (s : Station) : Bool :=
  match p.station with
  | some t => decide (t = s)
  | none => true

/-- A match set after a beacon of a station (R173). -/
def matchAfter (p : Option Pattern) (s : Station) (b : BeaconRecord) (m : Byte) : Byte :=
  match p with
  | some p => if p.watches s then (if p.holdsOf b then m ||| stationBit s else m &&& ~~~ stationBit s) else m
  | none => m

/-- The match sets after a beacon (R173). -/
def matchesAfter (g : Image) (s : Station) (b : BeaconRecord) (sets : Eight Byte) : Eight Byte :=
  Eight.ofList 0 (allPatterns.map fun i => matchAfter (g.patterns.get i) s b (sets.get i))

/-- The action of a pattern, where it is used. -/
def Image.actionOf (g : Image) (i : Fin 8) : Option WatchAction := (g.patterns.get i).map (·.action)

/-- Whether some GATE pattern matches (R175). -/
def gateMatches (g : Image) (sets : Eight Byte) : Bool :=
  allPatterns.any fun i => decide (g.actionOf i = some .gate) && decide (sets.get i ≠ 0)

/-- The patterns whose match begins between two match sets (R173). -/
def matchBegins (old new : Eight Byte) (i : Fin 8) : Bool := decide (old.get i = 0) && decide (new.get i ≠ 0)

namespace Work

/-- The gate state becomes set on a pattern: consents are revoked and own claims released (R175), each in table order
(DESIGN CHOICE, log 49). -/
def gateBegins (i : Fin 8) (w : Work) : Work :=
  let w := (w.onTrips fun t => { t with gated := true }).post .tripController
    (.of .watchGate (code := 0) (value := i.val))
  let w := w.revokeEach (·.consent) .gated
  w.claims.table.foldl
    (fun w e =>
      if e.isOwn w.own && decide (e.state = .granted ∨ e.state = .held) then w.requestRelease e.tag .cancelled else w)
    w

/-- The gate state follows the match sets downward (R175). -/
def gateEnds (w : Work) : Work :=
  w.when (w.trips.gated && !gateMatches w.image w.trips.matchSets) fun w =>
    (w.onTrips fun t => { t with gated := false }).post .tripController (.of .watchGate (code := 1))

/-- What the beginning of one pattern's match does (R174, R175). -/
def matchBegun (s : Station) (i : Fin 8) (w : Work) : Work :=
  match w.image.actionOf i with
  | some .trip => (w.raise (.of .watchMatch (detail := i.val) (station := some s))).settle
  | some .note => w.post .tripController (.of .watchNote (station := some s) (value := i.val))
  | some .gate => w.when (!w.trips.gated) (·.gateBegins i)
  | none => w

/-- The watch list on an admitted beacon (R173): the sets of all patterns first, then what begins, in pattern order,
then the gate's end (log 19). -/
def watch (s : Station) (b : BeaconRecord) (w : Work) : Work :=
  let old := w.trips.matchSets
  let new := matchesAfter w.image s b old
  let w := w.onTrips fun t => { t with matchSets := new }
  let w := allPatterns.foldl (fun w i => w.when (matchBegins old new i) (·.matchBegun s i)) w
  w.gateEnds

/-- A station leaves every match set when a CLEAR makes its entry AWAITING (R173). -/
def unwatch (s : Station) (w : Work) : Work :=
  (w.onTrips fun t => { t with matchSets := t.matchSets.map (· &&& ~~~ stationBit s) }).gateEnds

end Work

end Sys2Proof.Machine
end

