-- ==== Sys2Proof/Machine/Peers.lean ====
section
/-! DEFINITION. The Peer View: admission and loss of peers, what an admitted beacon does in the other blocks, CLEAR's
readmission and stored park masks (R59 to R72, R96, R97), and the two silence thresholds and the divergence count as
commands (R68, R97). -/

namespace Sys2Proof.Machine

/-- Two tag lists name the same set (R97). -/
def sameTags (a b : List Tag) : Bool := a.all (fun t => b.contains t) && b.all (fun t => a.contains t)

/-- The entry a CLEAR readmits (R69). -/
def PeerEntry.readmitted (p : PeerEntry) : PeerEntry :=
  { p with
    admission := .awaiting, beacon := none, lastSeq := none, silence := 0, parkMask := none, unadmitted := false,
    divergence := 0 }

/-- The entry an admitted beacon leaves (R63). -/
def PeerEntry.heard (b : BeaconRecord) (p : PeerEntry) : PeerEntry :=
  { p with
    admission := .fresh, beacon := some b, lastSeq := some b.seq, silence := 0,
    parkMask := if b.mode.toNat = Mode.code .parked then p.parkMask else none }

/-- The entry at the close of muster (R61): AWAITING where the map holds the station with a role. -/
def PeerEntry.atClose (role : RoleCode) (p : PeerEntry) : PeerEntry :=
  if (Role.ofCode role).isSome then { p with admission := .awaiting, role := role, silence := 0, divergence := 0 }
  else { p with role := role }

namespace Work

/-- PEER_STATE posted for a changed entry (R72). -/
def postPeerState (s : Station) (w : Work) : Work :=
  w.post .peerView (.of .peerState (station := some s) (code := (w.peers.get s).admission.code))

/-- The String Tracker learns that a station's entry has left FRESH (R12, R25, R68). -/
def leftFresh (s : Station) (w : Work) : Work :=
  if w.isRole .hoist then w.when (decide (w.stationOf .crowd = some s)) recordUncertain
  else w.when (decide (w.stationOf .hoist = some s)) (·.onStrings fun t => { t with refreshed := false })

/-- An entry's admission state changed to one other than FRESH, with its consequences (R68, R72). -/
def demote (s : Station) (f : PeerEntry → PeerEntry) (w : Work) : Work :=
  let was := (w.peers.get s).admission
  let w := w.onPeer s f
  ((w.postPeerState s).when (decide (was = .fresh)) (·.leftFresh s))

/-- The Claim Engine learns that a station is LOST (R96): the first live entry to which both are parties. -/
def lossCheck (s : Station) (w : Work) : Work :=
  match w.claims.table.find? fun e => e.isParty w.own && e.isParty s with
  | some e =>
    w.when (decide (w.mode = .run ∨ w.mode = .parked))
      (·.raise (.of .peerLostInClaim (tag := some e.tag) (station := some s)))
  | none => w

/-- An entry becomes LOST (R67, R68): `unadmitted` is its mark after the loss. An entry that was FRESH leaves FRESH first,
and the Claim Engine's PEER_LOST_IN_CLAIM is taken after what the String Tracker does with that (DESIGN CHOICE, log
50). -/
def lose (s : Station) (unadmitted : Bool) (w : Work) : Work :=
  (w.demote s fun p => { p with admission := .lost, unadmitted := unadmitted }).lossCheck s

/-- LATE_JOINER, once for each station until the next reset, posted by the block that finds the mark clear (R58,
R64). -/
def lateJoiner (b : Block) (s : Station) (w : Work) : Work :=
  if inMask w.muster.lateMarks s then w
  else
    (w.onMuster fun m => { m with lateMarks := m.lateMarks ||| stationBit s }).post b
      (.of .lateJoiner (station := some s))

/-- A mismatch of the live tags found, the one that brings a station's divergence count to `n` (R97). -/
def mismatch (s : Station) (n : Nat) (w : Work) : Work :=
  let w := w.post .claimEngine (.of .tagsDiffer (station := some s) (value := n))
  if 2 ≤ n then
    (w.onPeer s fun p => { p with divergence := 0 }).raise (.of .claimDivergence (station := some s))
  else w.onPeer s fun p => { p with divergence := n }

/-- The live tags compared (R97). -/
def compareTags (s : Station) (tags : List Tag) (w : Work) : Work :=
  if w.mode = .run ∨ w.mode = .parked then
    if sameTags tags w.claims.liveTags then w.onPeer s fun p => { p with divergence := 0 }
    else w.mismatch s ((w.peers.get s).divergence + 1)
  else w.onPeer s fun p => { p with divergence := 0 }

/-- HOIST's String Tracker on an admitted beacon (R6, R13, R21, R22). -/
def stringBeacon (s : Station) (b : BeaconRecord) (becameFresh : Bool) (w : Work) : Work :=
  w.when (w.isRole .hoist) fun w =>
    let w := w.when (decide (w.stationOf .crowd = some s)) (·.crowdBeacon b.position becameFresh)
    let w := w.when (decide (w.stationOf .rotary = some s) && b.unkeyed) unkey
    w.when (decide (b.generation ≠ w.strings.record.map (·.generation))) requestString

/-- An admitted beacon: the entry first, then the Claim Engine, the Trip Controller, the String Tracker and the
Envelope Unit (R30, R63). -/
def admitBeacon (s : Station) (b : BeaconRecord) (w : Work) : Work :=
  let became := decide ((w.peers.get s).admission ≠ .fresh)
  let w := ((w.onPeer s (·.heard b)).when became (·.postPeerState s)).touch s.val
  let w := ((w.compareTags s b.tags).settle.watch s b).settle
  (w.stringBeacon s b became).reliefStep

/-- The forward difference of two beacon sequences is one a peer that has not restarted can show (R67). -/
def inSequence (last : Option Byte) (seq : Byte) : Bool :=
  match last with
  | some l => decide ((seq - l).toNat ≤ 12)
  | none => true

/-- A peer's beacon judged in a beaconing mode (R62 to R67). -/
def judgeBeacon (s : Station) (b : BeaconRecord) (w : Work) : Work :=
  let p := w.peers.get s
  let agrees := decide (b.map = w.muster.map ∧ b.role.toNat = p.role.toNat)
  match p.admission with
  | .absent => w.lateJoiner .peerView s
  | .lost =>
    if p.unadmitted then w
    else
      (w.onPeer s fun p => { p with unadmitted := true }).post .peerView
        (.of .unadmittedBeacon (station := some s) (code := 0))
  | .foreign => w.onPeer s fun p => { p with silence := 0 }
  | .awaiting =>
    if agrees then w.admitBeacon s b else w.demote s fun p => { p with admission := .foreign, silence := 0 }
  | .fresh | .stale =>
    if !agrees then w.demote s fun p => { p with admission := .foreign, silence := 0 }
    else if inSequence p.lastSeq b.seq then w.admitBeacon s b
    else (w.lose s true).post .peerView (.of .unadmittedBeacon (station := some s) (code := 1))

/-- One LOST entry made AWAITING (R69). -/
def readmit (w : Work) (s : Station) : Work :=
  if (w.peers.get s).admission = .lost then ((w.demote s PeerEntry.readmitted).unwatch s) else w

/-- A CLEAR at the Peer View (R69); a sender that is not PANEL is stray. The entries are taken by ascending station number
(DESIGN CHOICE, log 40). -/
def readmitAll (w : Work) : Work := allStations.foldl readmit w

/-- STRAY_FRAME for a frame of a kind from a sender. -/
def stray (b : Block) (sender : Station) (k : FrameKind) (tag : Option Tag) (w : Work) : Work :=
  w.post b (.of .strayFrame (station := some sender) (tag := tag) (code := k.code))

/-- A CLEAR delivered in a beaconing mode: the Peer View, then the Trip Controller (R30, R69, R171). -/
def deliverClear (sender : Station) (w : Work) : Work :=
  if w.muster.map.get sender = Role.code .panel then w.readmitAll.takeClear
  else w.stray .peerView sender .clear none

/-- A peer's PARK frame in a beaconing mode (R70). -/
def storePark (s : Station) (mask : Byte) (w : Work) : Work :=
  match (w.peers.get s).admission with
  | .awaiting | .fresh | .stale => (w.onPeer s fun p => { p with parkMask := some mask }).touch s.val
  | .lost | .foreign => w
  | .absent => w.stray .peerView s .park none

end Work

/-- SILENCE_3P (R68): a FRESH entry becomes STALE (log 1). -/
def execSilence3P (station : Station) (s : State) : Host.Outcome State Fault Refusal :=
  if s.mode.beaconing ∧ (s.peers.get station).admission = .fresh then
    .next (finish s ((Work.begin s).demote station fun p =>
      { p with admission := .stale, silence := max p.silence (3 * s.period) }))
  else .next s

/-- SILENCE_8P (R68): an AWAITING, STALE or FOREIGN entry becomes LOST (log 1). -/
def execSilence8P (station : Station) (s : State) : Host.Outcome State Fault Refusal :=
  let a := (s.peers.get station).admission
  if s.mode.beaconing ∧ (a = .awaiting ∨ a = .stale ∨ a = .foreign) then
    .next (finish s (((Work.begin s).onPeer station fun p => { p with silence := max p.silence (8 * s.period) }).lose
      station false))
  else .next s

/-- DIVERGENCE_COUNT_REACHED (R97): the second mismatch of a station heard, in RUN and PARKED (log 5). -/
def execDivergenceCountReached (station : Station) (s : State) : Host.Outcome State Fault Refusal :=
  if (s.mode = .run ∨ s.mode = .parked) ∧ (s.peers.get station).admission = .fresh then
    .next (finish s ((Work.begin s).mismatch station 2))
  else .next s

end Sys2Proof.Machine
end

