-- ==== Sys2Proof/Machine/ClaimFrames.lean ====
section
/-! DEFINITION. The Claim Engine's frames: admission and answers, grants and readiness, TAKE, RELEASE, REFUSE and REVOKE
(R80 to R94). Each operation is the delivery of one frame in a beaconing mode, from a peer or of the station's own. -/

namespace Sys2Proof.Machine

namespace Work

/-- FRAME_IGNORED for a frame of a kind, with its auxiliary code (R98, 10-8). -/
def ignoreFrame (sender : Station) (k : FrameKind) (tag : Tag) (aux : Nat) (w : Work) : Work :=
  w.post .claimEngine (.of .frameIgnored (station := some sender) (tag := some tag) (code := k.code) (aux := aux))

/-- A claim event posted where the station is a party of the entry (R98). -/
def postParty (e : ClaimEntry) (k : EventKind) (station : Option Station) (code : Nat) (w : Work) : Work :=
  w.when (e.isParty w.own) (·.post .claimEngine (.of k (station := station) (tag := some e.tag) (code := code)))

/-- The peer entry of a sender other than this station has this admission state. -/
def senderIs (sender : Station) (a : Admission) (w : Work) : Bool :=
  decide (sender ≠ w.own) && decide ((w.peers.get sender).admission = a)

/-! ### Admission (R80 to R82) -/

/-- A CLAIM not admitted (R81). -/
def refuseAdmission (sender : Station) (tag : Tag) (cls : Byte) (reason : Reason) (w : Work) : Work :=
  let members := ((MotionClass.ofCode cls).map (consentSetOf w.muster.map)).getD 0
  let w := w.when (decide (sender = w.own))
    (·.post .claimEngine (.of .claimRefused (station := some w.own) (tag := some tag) (code := reason.code)))
  w.when (inMask members w.own) (·.queueFrame (.refuse tag reason))

/-- The answer of a consent-set member (R83): `none` is GRANT. -/
def answer (kind : ClaimKind) (w : Work) : Option Reason :=
  if w.mode = .lockout then some .lockout
  else if w.mode = .safed ∨ w.mode = .safeDown then some .notRun
  else if w.mode = .parked ∧ inClassMask (w.trips.ownParkMask.getD 0) kind.cls = false then some .parked
  else if w.trips.gated then some .gated
  else if w.grantCondition kind then none
  else some .condition

/-- The answer queued (R83, R84); the consent is applied with the GRANT that is queued (log 13). -/
def answerClaim (tag : Tag) (kind : ClaimKind) (w : Work) : Work :=
  match w.answer kind with
  | none =>
    (w.queueFrame (.grant tag)).when (w.canQueue (.grant tag)) (·.onEntry tag fun e => { e with consent := true })
  | some reason =>
    (w.queueFrame (.refuse tag reason)).when (w.canQueue (.refuse tag reason))
      (·.post .claimEngine (.of .consentRefused (tag := some tag) (code := reason.code)))

/-- The entry of an admitted CLAIM (R82). -/
def newEntry (tag : Tag) (kind : ClaimKind) (w : Work) : ClaimEntry :=
  { tag := tag, kind := kind, consentSet := consentSetOf w.muster.map kind.cls, grants := 0, state := .pending,
    consent := false, revokeQueued := false,
    grantWindow := if tag.station = w.own then some (4 * w.period) else none, releasePending := false,
    takeQueued := false }

/-- A CLAIM admitted (R82). The arrival is a change of its table position, even where a trip in the same command empties
the table again (R98, R185). -/
def admitClaim (tag : Tag) (kind : ClaimKind) (w : Work) : Work :=
  let e := w.newEntry tag kind
  let w := w.when (decide (w.claims.table.length < 8)) (·.touch (9 + w.claims.table.length))
  let w := w.onClaims fun c => { c with table := c.table ++ [e] }
  let w := w.when (e.isOwn w.own) (·.post .claimEngine (.of .claimAdmitted (tag := some tag)))
  w.when (inMask e.consentSet w.own) (·.answerClaim tag kind)

/-- A CLAIM delivered (R80). -/
def deliverClaim (sender : Station) (tag : Tag) (cls : Byte) (params : Word16) (w : Work) : Work :=
  let a := (w.peers.get sender).admission
  if sender ≠ w.own ∧ a.member = false then w.ignoreFrame sender .claim tag a.code
  else if (w.claims.find tag).isSome then w
  else
    match ClaimKind.parse cls params with
    | none => w.refuseAdmission sender tag cls .badClass
    | some kind =>
      if w.muster.map.get sender ≠ kind.cls.originator.code then w.refuseAdmission sender tag cls .badClass
      else if w.claims.table.all fun e => compatible e.kind kind then w.admitClaim tag kind
      else w.refuseAdmission sender tag cls .conflict

/-! ### Grants and readiness (R85, R86) -/

/-- The originator's readiness judged, once (R86). -/
def judgeReadiness (tag : Tag) (w : Work) : Work :=
  let w := w.onEntry tag fun e => { e with grantWindow := none }
  if decide (w.mode = .run) && !w.trips.gated && !((w.claims.find tag).map (·.releasePending)).getD true then
    (w.queueFrame (.take tag)).when (w.canQueue (.take tag)) (·.onEntry tag fun e => { e with takeQueued := true })
  else w.requestRelease tag .notReady

/-- Every member of an entry's consent set has granted (R85). -/
def fullyGranted (e : ClaimEntry) : Bool := decide (e.consentSet &&& ~~~e.grants = 0)

/-- A grant counted (R85). -/
def countGrant (sender : Station) (e : ClaimEntry) (w : Work) : Work :=
  let e' := { e with grants := e.grants ||| stationBit sender }
  if fullyGranted e' then
    (w.onEntry e.tag fun e => { e with grants := e.grants ||| stationBit sender, state := .granted }).when
      (e.isOwn w.own) (·.judgeReadiness e.tag)
  else w.onEntry e.tag fun e => { e with grants := e.grants ||| stationBit sender }

/-- A GRANT delivered (R85). -/
def deliverGrant (sender : Station) (tag : Tag) (w : Work) : Work :=
  match w.claims.find tag with
  | none => w.stray .claimEngine sender .grant (some tag)
  | some e =>
    if inMask e.consentSet sender = false then w.ignoreFrame sender .grant tag ignoredNotMember
    else if w.senderIs sender .stale || w.senderIs sender .lost || w.senderIs sender .foreign then
      w.ignoreFrame sender .grant tag (w.peers.get sender).admission.code
    else if inMask e.grants sender then w
    else w.countGrant sender e

/-! ### TAKE (R88) -/

/-- A GRANTED entry becomes HELD (R88, R108, R109, R146). -/
def becomeHeld (e : ClaimEntry) (w : Work) : Work :=
  let w := w.onEntry e.tag fun e => { e with state := .held }
  let w := w.postParty e .claimHeld none 0
  w.when (e.isOwn w.own) fun w => (w.rotaryHeld e).keyedBegins

/-- A TAKE delivered (R88). -/
def deliverTake (sender : Station) (tag : Tag) (w : Work) : Work :=
  match w.claims.find tag with
  | none => w.stray .claimEngine sender .take (some tag)
  | some e =>
    if sender ≠ tag.station then w.ignoreFrame sender .take tag ignoredNotOriginator
    else if w.senderIs sender .foreign then w.ignoreFrame sender .take tag Admission.foreign.code
    else
      let w := w.when (decide (sender = w.own)) (·.onEntry tag fun e => { e with takeQueued := false })
      match e.state with
      | .granted => w.becomeHeld e
      | .held => w
      | .pending =>
        if w.mode = .run ∨ w.mode = .parked then w.raise (.of .claimDivergence (tag := some tag))
        else w.ignoreFrame sender .take tag ignoredUngranted

/-! ### Endings (R90, R91, R93)

Where an ending itself raises a cause (a STRING_MISMATCH, a LINK_JAM), its own record is posted before the trip's
CLAIM_VOIDED (DESIGN CHOICE, log 52). -/

/-- A RELEASE delivered (R90); CLAIM_RELEASED precedes what a cause it raises posts (DESIGN CHOICE, log 52). -/
def deliverRelease (sender : Station) (tag : Tag) (res : ReleaseResult) (w : Work) : Work :=
  match w.claims.find tag with
  | none => w.stray .claimEngine sender .release (some tag)
  | some e =>
    if sender ≠ tag.station then w.ignoreFrame sender .release tag ignoredNotOriginator
    else if w.senderIs sender .foreign then w.ignoreFrame sender .release tag Admission.foreign.code
    else (w.removeEntry e (.released res)).postParty e .claimReleased none res.code

/-- Whether a REFUSE or REVOKE for an entry is acted on: `none`, or the auxiliary code of its FRAME_IGNORED (R91,
R93). -/
def endingRefused (sender : Station) (e : ClaimEntry) (w : Work) : Option Nat :=
  if inMask e.consentSet sender = false then some ignoredNotMember
  else if w.senderIs sender .foreign then some Admission.foreign.code
  else none

/-- A REFUSE delivered (R81, R91); CLAIM_REFUSED precedes what a cause it raises posts (DESIGN CHOICE, log 52). -/
def deliverRefuse (sender : Station) (tag : Tag) (reason : Reason) (w : Work) : Work :=
  match w.claims.find tag with
  | none =>
    if reason = .badClass ∨ reason = .conflict then w else w.stray .claimEngine sender .refuse (some tag)
  | some e =>
    match w.endingRefused sender e with
    | some aux => w.ignoreFrame sender .refuse tag aux
    | none => (w.removeEntry e .refused).postParty e .claimRefused (some sender) reason.code

/-- A REVOKE delivered (R93); CLAIM_REVOKED precedes what a cause it raises posts (DESIGN CHOICE, log 52). -/
def deliverRevoke (sender : Station) (tag : Tag) (reason : Reason) (w : Work) : Work :=
  match w.claims.find tag with
  | none => w.stray .claimEngine sender .revoke (some tag)
  | some e =>
    match w.endingRefused sender e with
    | some aux => w.ignoreFrame sender .revoke tag aux
    | none => (w.removeEntry e .revoked).postParty e .claimRevoked (some sender) reason.code

end Work

end Sys2Proof.Machine
end

