-- ==== Sys2Proof/Machine/ControlStep.lean ====
section
/-! DEFINITION. The commands of the station's clock and of its STOP line: the control step and the timer expiries that
no other file owns (R22, R33, R52, R87, R113, R117, R135, R138, R147, R153, R165 to R169). -/

namespace Sys2Proof.Machine

/-- The outcome of a command: the state it leads to. Every meaning of the model ends so. -/
abbrev Outcome := Host.Outcome State Fault Refusal

/-- A peer entry after one millisecond (R59): the silence time runs, holding at 65 535. -/
def PeerEntry.ticked (p : PeerEntry) : PeerEntry :=
  match p.admission with
  | .awaiting | .fresh | .stale | .foreign => { p with silence := held16 (p.silence + 1) }
  | .absent | .lost => p

/-- A count of milliseconds after one: it waits at 0 for its expiry (log 1). -/
def tickDown (t : Option Nat) : Option Nat := t.map (· - 1)

namespace Work

/-- One millisecond of the station's count (R181; R22, R33, R52, R59, R87). -/
def tick (w : Work) : Work :=
  let w : Work := { w with stamp := w.stamp + 1 }
  let w := w.when w.mode.beaconing (·.onPeers (·.map PeerEntry.ticked))
  let w := w.onClaims fun c => { c with table := c.table.map fun e => { e with grantWindow := tickDown e.grantWindow } }
  let w := w.onStrings fun t => { t with interval := tickDown t.interval }
  let w := w.onLink fun l => { l with beaconTimer := tickDown l.beaconTimer }
  w.onMuster fun m => { m with windowTimer := tickDown m.windowTimer, sendTimer := tickDown m.sendTimer }

/-- The inputs' part of a control step: STOP line, readings, hard limits, and what they raise (R117, R118, R169). -/
def inputPhase (inputs : AxisInputs) (w : Work) : Work :=
  ((((w.sampleStop w.axis.stopPin).settle.readInputs inputs).settle).limitStep).settle

/-- The string's and the consents' part of a control step (R5, R103, R106, R111). -/
def stringPhase (w : Work) : Work := ((((w.stringStep).settle.holdStep).followStep).reliefStep).settle

/-- The envelope, the segment value and the demand of a control step, in the order of R127, then the lock turn's tests
(R112, R113, R127, R146). -/
def demandPhase (before : Mode) (w : Work) : Work :=
  ((((w.envelopeStep).segmentStep.settle).stoppingRamp.demandStep before).lockTurnStep).settle

/-- One control step from the start of CONFIG on (log 10). -/
def controlStep (inputs : AxisInputs) (w : Work) : Work :=
  ((((w.tick).inputPhase inputs).stringPhase).demandPhase w.mode).outputStep

/-- The beacon-due marker set, or BEACON_SKIPPED posted at a queue full without one (R33). -/
def setBeaconDue (w : Work) : Work :=
  if w.link.holdsKind .beacon then w
  else if w.link.count < 12 then w.onLink (·.insert .beacon)
  else w.post .linkController (.of .beaconSkipped)

/-- The safe-down limit reached (R167). -/
def safeDownTimeout (w : Work) : Work :=
  (w.onTrips fun t => { t with safeDownTimer := none }).raise (.of .safeDownTimeout)

/-- One period of the safe-down limit (R165). -/
def safeDownPeriod (w : Work) : Work :=
  match w.mode, w.trips.safeDownTimer with
  | .safeDown, some n =>
    if n ≤ 1 then w.safeDownTimeout else w.onTrips fun t => { t with safeDownTimer := some (n - 1) }
  | _, _ => w

end Work

/-! ### Meanings -/

/-- CONTROL_STEP (R113). In a reset that is held nothing counts; in START and STRAP_FAULT the stamp count alone runs
(R45, R47, R48). -/
def execControlStep (inputs : AxisInputs) (s : State) : Outcome :=
  if s.muster.resetHeld then .next s
  else if s.mode.readsAxis then .next (finish s ((Work.begin s).controlStep inputs))
  else .next { s with stamp := s.stamp + 1 }

/-- SEGMENT_COUNT_EXPIRY (R135): the begun LEVEL or DWELL of a RUNNING engine completes (log 5). -/
def execSegmentCountExpiry (s : State) : Outcome :=
  match s.segments.pointer, s.segments.current with
  | some i, some ⟨.level _ _, _⟩ | some i, some ⟨.dwell _, _⟩ =>
    if s.segments.begun && decide (s.segments.state = .running) then
      .next (finish s ((Work.begin s).onSegments (·.complete i)))
    else .next s
  | _, _ => .next s

/-- DEMAND_TIMER_EXPIRY (R138): a running demand timer stops and DEMAND_STARVED is raised (log 5). -/
def execDemandTimerExpiry (s : State) : Outcome :=
  if s.segments.demandTimer.isSome then
    .next (finish s (((Work.begin s).onSegments fun e => { e with demandTimer := none }).raise
      (.of .demandStarved (tag := s.ownHeld.map (·.tag)))))
  else .next s

/-- LOCK_TURN_TIMER_EXPIRY (R146, R147, R148): a turn not yet decided ends FAILED_TIME (log 5). -/
def execLockTurnTimerExpiry (s : State) : Outcome :=
  match s.lockTurn.state, s.lockTurn.turn with
  | .settling, some turn | .turning, some turn =>
    .next (finish s (((Work.begin s).onLockTurn fun u => { u with timer := 0 }).findResult turn .failedTime))
  | _, _ => .next s

/-- The STOP line at a level (R117, R169): seen at once where the line is sampled, otherwise at the first sample. -/
def stopLine (level : Bool) (s : State) : Outcome :=
  let w := (Work.begin s).onAxis fun a => { a with stopPin := level }
  if s.mode.readsAxis then .next (finish s (w.sampleStop level)) else .next w.toState

/-- STOP_LINE_ASSERTED (R169). -/
def execStopLineAsserted (s : State) : Outcome := stopLine true s

/-- STOP_LINE_NEGATED (R169). -/
def execStopLineNegated (s : State) : Outcome := stopLine false s

/-- SAFE_DOWN_TIMER_EXPIRY (R167) (log 5). -/
def execSafeDownTimerExpiry (s : State) : Outcome :=
  if s.mode = .safeDown ∧ s.trips.safeDownTimer.isSome then .next (finish s (Work.begin s).safeDownTimeout)
  else .next s

/-- BEACON_TIMER_EXPIRY (R33, R165): the timer starts anew, the marker is set if there is room, and the safe-down
limit falls by one period. -/
def execBeaconTimerExpiry (s : State) : Outcome :=
  if s.link.beaconTimer.isSome && s.mode.beaconing then
    let w := (Work.begin s).onLink fun l => { l with beaconTimer := some s.period }
    .next (finish s (w.setBeaconDue).safeDownPeriod)
  else .next s

/-- STRING_INTERVAL_EXPIRY (R22): the timer, which only a taken STRING starts again, has run out. -/
def execStringIntervalExpiry (s : State) : Outcome :=
  if s.strings.interval.isSome then
    .next (finish s ((Work.begin s).onStrings fun t => { t with interval := none }).requestString)
  else .next s

/-- MUSTER_SEND_EXPIRY (R52). -/
def execMusterSendExpiry (s : State) : Outcome :=
  if s.mode = .muster ∧ s.muster.sendTimer.isSome then
    let w := (Work.begin s).onMuster fun m => { m with sendTimer := some s.period }
    .next (finish s (w.queueFrame .muster))
  else .next s

/-- GRANT_WINDOW_EXPIRY (R87); CLAIM_TIMEOUT precedes what a LINK_JAM of its RELEASE posts (DESIGN CHOICE, log 52). -/
def execGrantWindowExpiry (tag : Tag) (s : State) : Outcome :=
  match s.claims.find tag with
  | some e =>
    if e.isOwn s.own && e.grantWindow.isSome then
      let w := (Work.begin s).onEntry tag fun e => { e with grantWindow := none }
      if decide (e.state = .pending) && !e.releasePending then
        .next (finish s ((w.requestRelease tag .timeout).post .claimEngine (.of .claimTimeout (tag := some tag))))
      else .next (finish s w)
    else .next s
  | none => .next s

/-- STALL_COUNT_REACHED (R153): STALL sets under the own HELD ROTATE FORWARD (log 5). -/
def execStallCountReached (s : State) : Outcome :=
  match (Work.begin s).heldForward with
  | some e =>
    if s.isRole .rotary && !s.lockTurn.stall then
      .next (finish s (((Work.begin s).onLockTurn fun u => { u with stallCount := s.image.stallPeriods }).setStall
        e.tag))
    else .next s
  | none => .next s

/-- SAFE_DOWN_COMPLETE (R166): the rest count reaches 2, in SAFE_DOWN with the demand at rest (log 5). -/
def execSafeDownComplete (s : State) : Outcome :=
  if s.mode = .safeDown ∧ s.envelope.demand = 0 then .next (finish s (Work.begin s).completeSafeDown)
  else .next s

end Sys2Proof.Machine
end

