-- ==== Sys2Proof/Machine/Muster.lean ====
section
/-! DEFINITION. The Muster Unit: the muster map, the close of the window, rejoin, the entry into SAFED and MUSTER_FAULT
(R52 to R58). -/

namespace Sys2Proof.Machine

/-- The number of entries of a map that hold a role. -/
def roleCount (m : Eight RoleCode) (r : Role) : Nat := (m.toList.filter (decide <| · = r.code)).length

/-- The roles in the order of their codes. -/
def allRoles : List Role := [.hoist, .crowd, .rotary, .casing, .panel]

/-- The roles held by more than one entry, as a mask (R53). -/
def duplicates (m : Eight RoleCode) : Byte :=
  allRoles.foldl (fun d r => if 1 < roleCount m r then d ||| (1#8 <<< r.code.toNat) else d) 0

/-- The first role whose number of entries is not what a rig needs: one each, CASING at most one (R54). -/
def missingRole (m : Eight RoleCode) : Option Role :=
  allRoles.find? fun r => if r = .casing then decide (1 < roleCount m r) else decide (roleCount m r ≠ 1)

/-- The role of lowest code in a mask of roles. -/
def firstRole (d : Byte) : Nat := (allRoles.find? fun r => d.getLsbD r.code.toNat).elim 0 fun r => r.code.toNat

/-- Why a muster fails: its code and auxiliary code (R54, 10-8), or `none` where it succeeds. -/
def MusterUnit.verdict (m : MusterUnit) : Option (Nat × Nat) :=
  if m.conflict then some (0, 0)
  else if m.dupRoles ≠ 0 then some (1, firstRole m.dupRoles)
  else if m.peerFault then some (2, 0)
  else (missingRole m.map).map fun r => (3, r.code.toNat)

/-- The muster marks cleared (R52, R55). -/
def MusterUnit.unmarked (m : MusterUnit) : MusterUnit :=
  { m with dupRoles := 0, conflict := false, peerFault := false }

/-- The window and send timers stopped. -/
def MusterUnit.stopped (m : MusterUnit) : MusterUnit := { m with windowTimer := none, sendTimer := none }

/-- The sender's own entry in the map (R53, first step). -/
def MusterUnit.takeSender (s : Station) (r : RoleCode) (m : MusterUnit) : MusterUnit :=
  if m.map.get s = roleNone then { m with map := m.map.set s r }
  else if m.map.get s = r then m
  else { m with conflict := true }

/-- One entry of the carried map (R53, second step). -/
def MusterUnit.takeCarried (sender : Station) (carried : Eight RoleCode) (m : MusterUnit) (t : Station) : MusterUnit :=
  let c := carried.get t
  if t = sender ∨ c = roleNone then m
  else if t = m.straps.station then (if c = m.straps.role then m else { m with conflict := true })
  else if m.map.get t = roleNone then { m with map := m.map.set t c }
  else if m.map.get t = c then m
  else { m with conflict := true }

/-- A peer's MUSTER frame taken (R53). -/
def MusterUnit.take (sender : Station) (r : RoleCode) (carried : Eight RoleCode) (fault : Bool) (m : MusterUnit) :
    MusterUnit :=
  let m := allStations.foldl (MusterUnit.takeCarried sender carried) (m.takeSender sender r)
  { m with dupRoles := m.dupRoles ||| duplicates m.map, peerFault := m.peerFault || fault }

/-- Whether a MUSTER frame's role or map holds a code that it may not (R53). -/
def badMuster (role : Byte) (carried : Eight RoleCode) : Bool :=
  decide (4 < role.toNat) || carried.toList.any fun c => decide (c = 5 ∨ c = 6)

namespace Work

/-- The peer table at the close of muster (R56, R61), with a PEER_STATE for each entry made AWAITING (R72),
by ascending station number (DESIGN CHOICE, log 40). -/
def awaitPeers (w : Work) : Work :=
  let own := w.own
  let map := w.muster.map
  allStations.foldl
    (fun w s =>
      if s = own then w.onPeer s fun p => { p with role := map.get s }
      else
        (w.onPeer s (·.atClose (map.get s))).when (Role.ofCode (map.get s)).isSome (·.postPeerState s))
    w

/-- The cause of the oldest local entry other than START, carried to the rig at muster close (R56). -/
def oldestLocalCause (l : List TripEntry) : Option Cause :=
  (l.find? fun e => e.isLocal && decide (e.cause ≠ .start)).map (·.cause)

/-- The entry into SAFED from MUSTER, the axis set at rest (R56, R114): `code` and `station` are the detail of MUSTER_CLOSED. -/
def enterSafed (code : Nat) (station : Option Station) (w : Work) : Work :=
  let w := ((w.setMode .safed).setAtRest).onMuster (·.stopped)
  let w := w.recordTrip { origin := w.own, cause := .start, isLocal := true, acked := false } none .safed
  let w := w.onLink (·.withdraw (decide <| ·.kind = .muster))
  let w := match oldestLocalCause w.trips.record with
    | some c => w.queueFrame (.trip w.own c)
    | none => w
  let w := w.post .musterUnit (.of .musterClosed (station := station) (code := code))
  let w := w.awaitPeers
  let w := (w.setBeaconDue).onLink fun l => { l with beaconTimer := some w.period }
  w.when (w.isRole .hoist) recordPresent

/-- The entry into MUSTER_FAULT (R42, R57), with the event's detail. -/
def enterMusterFault (code aux : Nat) (station : Option Station) (w : Work) : Work :=
  let w := (w.setMode .musterFault).onMuster (·.stopped)
  let w := w.onLink fun l =>
    { l with
      queue := [], attempts := 0,
      slot := if l.isSending then
          l.slot.map fun x => { x with sending := x.sending.map fun y => { y with fate := .unjudged } }
        else none }
  w.post .musterUnit (.of .musterFault (station := station) (code := code) (aux := aux))

/-- The window closes and the map is judged (R54). -/
def closeWindow (w : Work) : Work :=
  match w.muster.verdict with
  | none => w.enterSafed 0 none
  | some (code, aux) => w.enterMusterFault code aux none

/-- A peer's beacon in MUSTER (R55): rejoin, or NOT_IN_RIG. -/
def rejoin (sender : Station) (b : BeaconRecord) (w : Work) : Work :=
  if b.map.get w.own = w.muster.straps.role then
    (w.onMuster fun m => { m.unmarked with map := b.map }).enterSafed 1 (some sender)
  else w.enterMusterFault 4 0 (some sender)

/-- A peer's MUSTER frame delivered (R49, R53, R58). -/
def deliverMuster (sender : Station) (role : Byte) (carried : Eight RoleCode) (fault : Bool) (w : Work) : Work :=
  if w.mode = .muster then
    if badMuster role carried then w.stray .musterUnit sender .muster none
    else w.onMuster (·.take sender (role.setWidth 3) carried fault)
  else w.when w.mode.beaconing (·.lateJoiner .musterUnit sender)

/-- The entry into MUSTER (R52). -/
def enterMuster (w : Work) : Work :=
  let w := (w.setMode .muster).onMuster fun m =>
    { m.unmarked with
      map := (Eight.const roleNone).set m.straps.station m.straps.role,
      windowTimer := some (16 * w.period), sendTimer := some w.period }
  w.queueFrame .muster

end Work

/-- MUSTER_WINDOW_EXPIRY (R54). -/
def execMusterWindowExpiry (s : State) : Outcome :=
  if s.mode = .muster ∧ s.muster.windowTimer.isSome then .next (finish s (Work.begin s).closeWindow) else .next s

end Sys2Proof.Machine
end

