-- ==== Sys2Proof/Machine/Wire.lean ====
section
/-! DEFINITION. The link's bits: the layouts of R190 written and read back, the CRC, the checks of R28, and the
arbitration of R27. -/

namespace Sys2Proof.Machine

/-! ### Bits and bytes, most significant first -/

/-- The low `n` bits of a number, most significant first. -/
def natBits : Nat → Nat → List Bool
  | 0, _ => []
  | n + 1, v => v.testBit n :: natBits n v

/-- The number a list of bits stands for, most significant first. -/
def bitsNat (l : List Bool) : Nat := l.foldl (fun n b => 2 * n + bit b) 0

/-- The bits of bytes in sending order. -/
def bytesBits (l : List Byte) : List Bool := l.flatMap fun b => natBits 8 b.toNat

/-- The first `n` bytes of a list of bits. -/
def bitsBytes : Nat → List Bool → List Byte
  | 0, _ => []
  | n + 1, l => BitVec.ofNat 8 (bitsNat (l.take 8)) :: bitsBytes n (l.drop 8)

/-- A signed value in two bytes. -/
def int16Bytes (v : Int) : List Byte := wordBytes (BitVec.ofInt 16 v)

/-- A signed or unsigned value in four bytes. -/
def int32Bytes (v : Int) : List Byte :=
  let w := BitVec.ofInt 32 v
  [w.extractLsb' 24 8, w.extractLsb' 16 8, w.extractLsb' 8 8, w.extractLsb' 0 8]

/-- The unsigned value of two bytes. -/
def nat16Of (a b : Byte) : Nat := (wordOf a b).toNat

/-- The signed value of two bytes. -/
def int16Of (a b : Byte) : Int := (wordOf a b).toInt

/-- Four bytes as one word. -/
def word32Of (a b c d : Byte) : BitVec 32 := wordOf a b ++ wordOf c d

/-- A muster map in three bytes, station 0 in the high bits of the first (R190). -/
def mapBytes (m : Eight RoleCode) : List Byte :=
  let w : BitVec 24 := m.v0 ++ m.v1 ++ m.v2 ++ m.v3 ++ m.v4 ++ m.v5 ++ m.v6 ++ m.v7
  [w.extractLsb' 16 8, w.extractLsb' 8 8, w.extractLsb' 0 8]

/-- A muster map from its three bytes (R190). -/
def mapOf (a b c : Byte) : Eight RoleCode :=
  let w : BitVec 24 := a ++ b ++ c
  ⟨w.extractLsb' 21 3, w.extractLsb' 18 3, w.extractLsb' 15 3, w.extractLsb' 12 3, w.extractLsb' 9 3,
    w.extractLsb' 6 3, w.extractLsb' 3 3, w.extractLsb' 0 3⟩

/-! ### Payloads written (R190) -/

/-- A code as a byte. -/
def codeByte (n : Nat) : Byte := BitVec.ofNat 8 n

end Sys2Proof.Machine

namespace Sys2Proof

open Machine

/-- A beacon's flags byte (R190); the two bits of no use are sent as 0 (DESIGN CHOICE, log 51). -/
def BeaconRecord.flags (b : BeaconRecord) : Byte :=
  codeByte (bit b.atRest + 2 * bit b.stall + 4 * bit b.unkeyed + 8 * bit b.clearRefused + 16 * bit b.gated
    + 32 * bit b.generation.isNone)

/-- A beacon's payload (R190). -/
def BeaconRecord.bytes (b : BeaconRecord) : List Byte :=
  [b.role, b.mode, b.seq] ++ int16Bytes b.primary ++ int16Bytes b.secondary ++ int32Bytes b.position
    ++ int16Bytes b.output ++ [b.flags] ++ mapBytes b.map
    ++ [b.generation.getD 0, codeByte b.tags.length] ++ b.tags.map Tag.byte

/-- One section's three bytes in a STRING payload (R190). -/
def StringSection.bytes (e : StringSection) : List Byte :=
  (e.lock ++ e.pocket : BitVec 8) :: wordBytes (BitVec.ofNat 16 e.ext)

/-- A STRING payload (R190); the six bits of byte 8 of no use are sent as 0 (DESIGN CHOICE, log 51). -/
def StringImage.bytes (g : StringImage) : List Byte :=
  [g.generation, codeByte g.count] ++ int32Bytes g.total ++ wordBytes (BitVec.ofNat 16 g.slack)
    ++ [codeByte (bit g.loadComplete + 2 * bit g.certain)] ++ int32Bytes g.depth
    ++ g.sections.flatMap StringSection.bytes

end Sys2Proof

namespace Sys2Proof.Machine

/-- A frame's payload (R190). The fault byte of a MUSTER is sent as 1 for a set flag and 0 for a clear one (DESIGN CHOICE,
log 53). -/
def Frame.payload : Frame → List Byte
  | .trip origin cause => [codeByte origin.val, codeByte cause.code]
  | .clear => []
  | .revoke tag reason | .refuse tag reason => [tag.byte, codeByte reason.code]
  | .release tag result => [tag.byte, codeByte result.code]
  | .grant tag | .take tag => [tag.byte]
  | .claim tag cls params => [tag.byte, cls] ++ wordBytes params
  | .string image => image.bytes
  | .beacon record => record.bytes
  | .park mask => [mask]
  | .muster role map fault => [role] ++ mapBytes map ++ [codeByte (bit fault)]

/-! ### The CRC and the whole frame (R190) -/

/-- One bit of the division by x^16 + x^12 + x^5 + 1. -/
def crcStep (r : Word16) (b : Bool) : Word16 :=
  if r.msb != b then (r <<< 1) ^^^ 0x1021#16 else r <<< 1

/-- The CRC of header and payload bits, the register set to all ones first. -/
def crc (l : List Bool) : Word16 := l.foldl crcStep 0xFFFF#16

/-- Header and payload in sending order. -/
def Frame.body (sender : Station) (f : Frame) : List Bool :=
  natBits 4 f.kind.code ++ natBits 3 sender.val ++ natBits 6 f.payload.length ++ bytesBits f.payload

/-- The bits a station drives for a frame (R190). -/
def Frame.bits (sender : Station) (f : Frame) : List Bool :=
  f.body sender ++ natBits 16 (crc (f.body sender)).toNat

/-! ### Payloads read back, with the length and code checks of R28 -/

/-- A beacon's contents from its payload; bits of no use are ignored (DESIGN CHOICE, log 51). -/
def beaconOf (p : List Byte) : Option BeaconRecord :=
  match p with
  | role :: mode :: seq :: p1 :: p0 :: s1 :: s0 :: q3 :: q2 :: q1 :: q0 :: o1 :: o0 :: fl :: m2 :: m1 :: m0 :: gen
      :: n :: tags =>
    if n.toNat ≤ 8 ∧ tags.length = n.toNat then
      some
        { role := role, mode := mode, seq := seq, primary := int16Of p1 p0, secondary := int16Of s1 s0,
          position := (word32Of q3 q2 q1 q0).toInt, output := int16Of o1 o0,
          atRest := fl.getLsbD 0, stall := fl.getLsbD 1, unkeyed := fl.getLsbD 2, clearRefused := fl.getLsbD 3,
          gated := fl.getLsbD 4, map := mapOf m2 m1 m0,
          generation := if fl.getLsbD 5 then none else some gen, tags := tags.map Tag.ofByte }
    else none
  | _ => none

/-- `n` sections from their bytes, none left over. -/
def sectionsOf : Nat → List Byte → Option (List StringSection)
  | 0, [] => some []
  | n + 1, c :: e1 :: e0 :: rest =>
    (sectionsOf n rest).map fun l =>
      { lock := c.extractLsb' 4 4, pocket := c.extractLsb' 0 4, ext := nat16Of e1 e0 } :: l
  | _, _ => none

/-- A STRING frame's contents from its payload; bits of no use are ignored (DESIGN CHOICE, log 51). -/
def stringOf (p : List Byte) : Option StringImage :=
  match p with
  | gen :: n :: t3 :: t2 :: t1 :: t0 :: s1 :: s0 :: fl :: d3 :: d2 :: d1 :: d0 :: rest =>
    if 2 ≤ n.toNat ∧ n.toNat ≤ 6 then
      (sectionsOf (n.toNat - 1) rest).map fun l =>
        { generation := gen, count := n.toNat, total := (word32Of t3 t2 t1 t0).toNat, slack := nat16Of s1 s0,
          loadComplete := fl.getLsbD 0, certain := fl.getLsbD 1, depth := (word32Of d3 d2 d1 d0).toInt,
          sections := l }
    else none
  | _ => none

/-- The cause a TRIP frame may carry: any but START (R28). -/
def tripCauseOf (c : Byte) : Option Cause := if c.toNat = 0 then none else Cause.ofCode c.toNat

/-- The frame of a kind code and payload, where the kind is assigned, the length permitted and each code in its list
(R28, R190). -/
def frameOf (kind : Nat) (p : List Byte) : Option Frame :=
  match kind, p with
  | 0, [o, c] =>
    match tripCauseOf c with
    | some cause => if h : o.toNat < 8 then some (.trip ⟨o.toNat, h⟩ cause) else none
    | none => none
  | 1, [] => some .clear
  | 2, [t, r] => (Reason.ofCode r.toNat).map (.revoke (Tag.ofByte t))
  | 3, [t, r] => (ReleaseResult.ofCode r.toNat).map (.release (Tag.ofByte t))
  | 4, [t, r] => (Reason.ofCode r.toNat).map (.refuse (Tag.ofByte t))
  | 5, [t] => some (.grant (Tag.ofByte t))
  | 6, [t] => some (.take (Tag.ofByte t))
  | 7, [t, c, hi, lo] => some (.claim (Tag.ofByte t) c (wordOf hi lo))
  | 8, p => (stringOf p).map .string
  | 9, p => (beaconOf p).map .beacon
  | 10, [m] => if classMaskWf m then some (.park m) else none
  | 11, [r, m2, m1, m0, f] => some (.muster r (mapOf m2 m1 m0) (decide (f ≠ 0)))
  | _, _ => none

/-- How a received frame fails its checks (R28), in the code order of 10-8. -/
inductive RxFault where
  | crc | format
deriving DecidableEq, Repr

/-- The code of a receive error (10-8). -/
def RxFault.code : RxFault → Nat
  | .crc => 0
  | .format => 1

/-- The outcome of the checks of R28 at a frame's end. -/
inductive Received where
  | good (sender : Station) (frame : Frame)
  | bad (why : RxFault)
deriving DecidableEq, Repr

/-- The checks of R28 on the bits received: complete, CRC in agreement, then kind, length and codes. Bits beyond the
declared length leave it no frame of that length: an incomplete frame (log 21). -/
def receive (l : List Bool) : Received :=
  let kind := bitsNat (l.take 4)
  let sender := bitsNat ((l.drop 4).take 3) % 8
  let len := bitsNat ((l.drop 7).take 6)
  let body := l.take (13 + 8 * len)
  if l.length ≠ 13 + 8 * len + 16 then .bad .crc
  else if bitsNat (l.drop (13 + 8 * len)) ≠ (crc body).toNat then .bad .crc
  else
    match frameOf kind (bitsBytes len (l.drop 13)) with
    | some f => .good ⟨sender, Nat.mod_lt _ (by decide)⟩ f
    | none => .bad .format

/-! ### Arbitration (R27) -/

/-- The arbitration field: kind code, then station number (R26). -/
def arbitrationField (k : FrameKind) (s : Station) : BitVec 7 := BitVec.ofNat 7 (k.code * 8 + s.val)

/-- Bit by bit arbitration over the low `n` bits, from the highest: the line is dominant where anyone still driving
drives a 0; a station that drives 1 and reads 0 has lost (R27). The rivals are the other contenders' fields. -/
def arbitrate : Nat → BitVec 7 → List (BitVec 7) → Bool
  | 0, _, _ => true
  | n + 1, own, rivals =>
    let line := own.getLsbD n && rivals.all fun r => r.getLsbD n
    if own.getLsbD n && !line then false
    else arbitrate n own (rivals.filter fun r => r.getLsbD n == line)

/-- Whether the station is still driving at the end of its arbitration field (R27). -/
def winsArbitration (own : BitVec 7) (rivals : List (BitVec 7)) : Bool := arbitrate 7 own rivals

/-! ### The echo (R37) -/

/-- The bits read back of those driven: the ones that `flips` marks are read inverted (R37, log 38). -/
def readBack : List Bool → List Bool → List Bool
  | d :: driven, f :: flips => xor d f :: readBack driven flips
  | driven, _ => driven

/-- What the bits read make of an attempt (R37): clean, faulty, or arbitration lost (R27). -/
inductive EchoVerdict where
  | clean | faulty | lost
deriving DecidableEq, Repr

/-- The comparison of the bits read with the bits driven (R37); a bit that is 1 is recessive. -/
def echoVerdict (driven read : List Bool) : EchoVerdict :=
  if read = driven then .clean
  else if ((driven.zip read).take 7).any fun b => b.1 && !b.2 then .lost
  else .faulty

end Sys2Proof.Machine
end

