-- ==== Sys2Proof/Machine/Link.lean ====
section
/-! DEFINITION. The Link Controller's commands: contending, the own frame taken or failed, and the delivery of every
kind of received frame (R23 to R43). -/

namespace Sys2Proof.Machine

/-! ### Filling a frame (R34, R35) -/

/-- A measure of the beacon: 0 where the role has no such input (R35). -/
def State.measure (s : State) (p : AxisPlace) (u : FreeUse) : Int :=
  match s.role.bind fun r => validRange r p with
  | some _ => s.reading p u
  | none => 0

/-- The beacon's position field (R35, R145). -/
def State.beaconPosition (s : State) : Int :=
  if s.isRole .rotary then ((s.lockTurn.reverseAngle / 1000000 : Nat) : Int) else s.measure .position .beaconPosition

/-- The axis state record (R35). -/
def State.beacon (s : State) : BeaconRecord where
  role := s.muster.straps.role.setWidth 8
  mode := codeByte s.mode.code
  seq := s.link.beaconSeq
  primary := s.measure .primary .beaconPrimary
  secondary := s.measure .secondary .beaconSecondary
  position := s.beaconPosition
  output := s.axis.valve
  atRest := s.atRestFlag
  stall := s.isRole .rotary && s.lockTurn.stall
  unkeyed := s.isRole .rotary && s.lockTurn.unkeyed
  clearRefused := s.trips.clearRefused
  gated := s.trips.gated
  map := s.muster.map
  generation := s.generationHeld
  tags := s.claims.liveTags

/-- A section as a STRING frame carries it (R190). -/
def SectionEntry.carried (e : SectionEntry) : StringSection :=
  { lock := BitVec.ofNat 4 e.lock.code, pocket := BitVec.ofNat 4 (e.lock.pocket.getD 0), ext := e.ext.toNat }

/-- The contents of a STRING frame (R23, R190). -/
def StringRecord.image (r : StringRecord) : StringImage where
  generation := r.generation
  count := r.count
  total := r.total.toNat
  slack := held16 r.slack.toNat
  loadComplete := r.loadComplete
  certain := r.certain
  depth := r.depth
  sections := r.sections.map SectionEntry.carried

/-- The fault flag of a MUSTER frame (R52). -/
def MusterUnit.faultFlag (m : MusterUnit) : Bool := decide (m.dupRoles ≠ 0) || m.conflict || m.peerFault

/-- A queue entry's frame as it is filled when it wins arbitration (R34). A STRING entry stands in the queue only
while the record is present (R22); the initial record stands for one that is not (log 29). -/
def State.fill (s : State) : TxItem → Frame
  | .trip o c => .trip o c
  | .clear => .clear
  | .revoke t r => .revoke t r
  | .release t r => .release t r
  | .refuse t r => .refuse t r
  | .grant t => .grant t
  | .take t => .take t
  | .claim t k => .claim t (codeByte k.cls.code) k.params
  | .string => .string (s.strings.record.getD (StringRecord.initial s.image)).image
  | .beacon => .beacon s.beacon
  | .park m => .park m
  | .muster => .muster (s.muster.straps.role.setWidth 8) s.muster.map s.muster.faultFlag

/-! ### Sending (R27, R31, R36 to R43) -/

/-- The head frame (R31). -/
def LinkController.head (l : LinkController) : Option TxItem := l.items.head?

/-- The head frame begins its transmission with these contents; `fault` is what the echo check finds (R37). -/
def LinkController.send (i : TxItem) (f : Frame) (fault : Bool) (l : LinkController) : LinkController :=
  { l with
    queue := if l.slot.isSome then l.queue else l.queue.tail,
    slot := some { item := i, sending := some { frame := f, fate := .judged, echoFault := fault } } }

/-- The frame in transmission ends and leaves the queue, the attempt count back at 0 (R38). -/
def LinkController.leave (l : LinkController) : LinkController := { l with slot := none, attempts := 0 }

/-- The frame in transmission ends and stays in the queue (R39, R43). -/
def LinkController.stay (l : LinkController) : LinkController :=
  { l with slot := l.slot.map fun x => { x with sending := none } }

/-- What becomes of an attempt with frame `f` on the line (R27, R37). A station that loses its arbitration
field to a rival, or reads a bit of it dominant that it drove recessive, has lost. -/
def State.attempt (s : State) (line : LineReading) (f : Frame) : EchoVerdict :=
  if winsArbitration (arbitrationField f.kind s.own) line.rivals then
    echoVerdict (f.bits s.own) (readBack (f.bits s.own) line.flips)
  else .lost

/-- CONTEND_FOR_LINK (R27, R34, R37): the station contends with its head frame when the link is idle. A station that is
already sending, has nothing to send, may send nothing in its mode, or has taken a RESET does not contend (R42, R43). One
that loses is unchanged, and an echo fault found is kept until the echo's end (log 38). -/
def execContendForLink (line : LineReading) (s : State) : Outcome :=
  match s.link.head with
  | some i =>
    if s.mode.transmits && !s.host.resetTaken && !s.link.isSending then
      match s.attempt line (s.fill i) with
      | .clean => .next (finish s ((Work.begin s).onLink (·.send i (s.fill i) false)))
      | .faulty => .next (finish s ((Work.begin s).onLink (·.send i (s.fill i) true)))
      | .lost => .next s
    else .next s
  | none => .next s

namespace Work

/-- The own beacon taken (R36, R38): the Lock-Turn Unit and the Trip Controller count it. -/
def beaconTaken (b : BeaconRecord) (w : Work) : Work :=
  ((w.onLink fun l => { l with beaconSeq := l.beaconSeq + 1 }).countStall b.secondary).countRest b.atRest

/-- The own STRING taken (R22, R23). -/
def stringTaken (g : StringImage) (w : Work) : Work :=
  w.onStrings fun t =>
    { t with refTotal := some (g.total : Int), interval := some (8 * w.period), queued := false }

/-- A frame of the station's own delivered to its own blocks (R38). Its own TRIP, PARK and MUSTER change nothing but
the void of R95 (R53, R58, R70, R164). -/
def deliverOwn (f : Frame) (w : Work) : Work :=
  match f with
  | .trip _ _ => w.voidTable
  | .clear => w.deliverClear w.own
  | .revoke t r => w.deliverRevoke w.own t r
  | .release t r => w.deliverRelease w.own t r
  | .refuse t r => w.deliverRefuse w.own t r
  | .grant t => w.deliverGrant w.own t
  | .take t => w.deliverTake w.own t
  | .claim t c p => w.deliverClaim w.own t c p
  | .string g => w.stringTaken g
  | .beacon b => w.beaconTaken b
  | .park _ | .muster _ _ _ => w

/-- The block that queued a frame is told that it was given up (R22, R39, R79, R84, R86). -/
def givenUp (i : TxItem) (w : Work) : Work :=
  match i with
  | .string => w.onStrings fun t => { t with queued := false }
  | .grant t => w.onEntry t fun e => { e with consent := false }
  | .take t => w.onEntry t fun e => { e with takeQueued := false }
  | .claim t _ => w.post .claimEngine (.of .claimWithdrawn (tag := some t) (code := 1))
  | .trip _ _ | .clear | .revoke _ _ | .release _ _ | .refuse _ _ | .beacon | .park _ | .muster => w

/-- An attempt fails (R39). The block whose frame is given up is told in the same delivery in which LINK_FAULT is raised,
and the Trip Controller takes that cause after it: CLAIM_WITHDRAWN stands before the trip's CLAIM_VOIDED (DEDUCED,
log 44). -/
def failAttempt (i : TxItem) (w : Work) : Work :=
  if w.link.attempts + 1 < 3 then w.onLink fun l => { l.stay with attempts := l.attempts + 1 }
  else ((w.onLink (·.leave)).raise (.of .linkFault (detail := i.kind.code))).givenUp i

/-- A frame that is to be removed where it fails has failed (R40, R41); an own CLAIM is withdrawn so (log 20). -/
def removeFailed (i : TxItem) (w : Work) : Work :=
  let w := w.onLink (·.leave)
  match i with
  | .claim t _ => w.post .claimEngine (.of .claimWithdrawn (tag := some t) (code := 0))
  | _ => w

end Work

/-- The end of the echo of the frame in transmission. A frame that is not judged is neither taken nor counted (R42, R43);
any other is dealt with by `judge` where the attempt ended as this command says, and a command that says otherwise has no
such moment (R37; log 6). -/
def endOfEcho (fault : Bool) (judge : Slot → Sending → Work → Work) (s : State) : Outcome :=
  match s.link.slot with
  | some ⟨item, some x⟩ =>
    let w := Work.begin s
    if x.fate = .unjudged then .next (finish s (w.onLink (·.leave)))
    else if s.host.resetTaken then .next (finish s (w.onLink (·.stay)))
    else if x.echoFault = fault then .next (finish s (judge ⟨item, some x⟩ x w))
    else .next s
  | _ => .next s

/-- FRAME_TAKEN (R37, R38): the echo ends with no fault found. -/
def execFrameTaken (s : State) : Outcome :=
  endOfEcho false (fun _ x w => (w.onLink (·.leave)).deliverOwn x.frame) s

/-- ATTEMPT_FAILED (R37, R39 to R41): the echo ends with a fault found. -/
def execAttemptFailed (s : State) : Outcome :=
  endOfEcho true
    (fun slot x w => if x.fate = .removedIfFailed then w.removeFailed slot.item else w.failAttempt slot.item) s

/-! ### Receiving (R28 to R30) -/

namespace Work

/-- A STRING frame from a peer in a beaconing mode (R23, R24). -/
def deliverString (sender : Station) (g : StringImage) (w : Work) : Work :=
  if w.isRole .hoist ∨ w.muster.map.get sender ≠ Role.code .hoist then w.stray .stringTracker sender .string none
  else if (w.peers.get sender).admission.member then
    let changed := decide ((w.strings.copy.map (·.generation)) ≠ some g.generation)
    let w := (w.onStrings fun t => { t with copy := some g, refreshed := true }).touch 8
    w.when changed (·.post .stringTracker (.of .stringChange (value := g.generation.toNat)))
  else w

/-- A good frame from a peer delivered to the blocks (R30), by the station mode (R42, R49, R52). A STRING in CONFIG or
MUSTER is discarded with no event in every role, HOIST's among them (R24, R49; DESIGN CHOICE against R23, log 47). -/
def deliverPeer (sender : Station) (f : Frame) (w : Work) : Work :=
  match f with
  | .muster role map fault => w.deliverMuster sender role map fault
  | .beacon b =>
    if w.mode = .muster then w.rejoin sender b else w.when w.mode.beaconing (·.judgeBeacon sender b)
  | .trip o c => w.when w.mode.beaconing (·.receiveTrip o c)
  | .clear => w.when w.mode.beaconing (·.deliverClear sender)
  | .revoke t r => w.when w.mode.beaconing (·.deliverRevoke sender t r)
  | .release t r => w.when w.mode.beaconing (·.deliverRelease sender t r)
  | .refuse t r => w.when w.mode.beaconing (·.deliverRefuse sender t r)
  | .grant t => w.when w.mode.beaconing (·.deliverGrant sender t)
  | .take t => w.when w.mode.beaconing (·.deliverTake sender t)
  | .claim t c p => w.when w.mode.beaconing (·.deliverClaim sender t c p)
  | .string g => w.when w.mode.beaconing (·.deliverString sender g)
  | .park m => w.when w.mode.beaconing (·.storePark sender m)

/-- A receive error posted (R28). -/
def rxError (why : RxFault) (w : Work) : Work := w.post .linkController (.of .linkRxError (code := why.code))

end Work

/-- A frame's contents fit its layout and its code lists (R28, R190). -/
def Frame.wf : Frame → Bool
  | .trip _ cause => decide (cause ≠ .start)
  | .string image => image.wf
  | .beacon record => record.wf
  | .park mask => classMaskWf mask
  | .clear | .revoke _ _ | .release _ _ | .refuse _ _ | .grant _ | .take _ | .claim _ _ _ | .muster _ _ _ => true

/-- No frame can end at the station's receiver: its mode receives nothing (R42), or a frame of its own is in
transmission, until whose end no other frame ends on the link (R34; log 6). -/
def State.deaf (s : State) : Bool := !s.mode.receives || s.link.isSending

/-- A frame received (R28 to R30, R34, R42): nothing where none can end at the station; LINK_RX_ERROR where its contents fit
no layout; SELF_HEARD where it carries the station's own number; otherwise delivered. -/
def receiveFrame (sender : Station) (f : Frame) (s : State) : Outcome :=
  let w := Work.begin s
  if s.deaf then .next s
  else if !f.wf then .next (finish s (w.rxError .format))
  else if sender = s.own then .next (finish s (w.post .linkController (.of .selfHeard (code := f.kind.code))))
  else .next (finish s (w.deliverPeer sender f))

/-- LINK_RX_ERROR (R28): the bits received are checked; a frame that passes after all is a received frame (log 21). -/
def execLinkRxError (bits : List Bool) (s : State) : Outcome :=
  match receive bits with
  | .bad why => if s.deaf then .next s else .next (finish s ((Work.begin s).rxError why))
  | .good sender f => receiveFrame sender f s

/-- TRIP_FRAME (R164). -/
def execTripFrame (sender origin : Station) (cause : Cause) (s : State) : Outcome :=
  receiveFrame sender (.trip origin cause) s

/-- CLEAR_FRAME (R69, R171). -/
def execClearFrame (sender : Station) (s : State) : Outcome := receiveFrame sender .clear s

/-- CLAIM_FRAME (R80). -/
def execClaimFrame (sender : Station) (tag : Tag) (cls : Byte) (params : Word16) (s : State) : Outcome :=
  receiveFrame sender (.claim tag cls params) s

/-- GRANT_FRAME (R85). -/
def execGrantFrame (sender : Station) (tag : Tag) (s : State) : Outcome := receiveFrame sender (.grant tag) s

/-- TAKE_FRAME (R88). -/
def execTakeFrame (sender : Station) (tag : Tag) (s : State) : Outcome := receiveFrame sender (.take tag) s

/-- RELEASE_FRAME (R90). -/
def execReleaseFrame (sender : Station) (tag : Tag) (result : ReleaseResult) (s : State) : Outcome :=
  receiveFrame sender (.release tag result) s

/-- REFUSE_FRAME (R91). -/
def execRefuseFrame (sender : Station) (tag : Tag) (reason : Reason) (s : State) : Outcome :=
  receiveFrame sender (.refuse tag reason) s

/-- REVOKE_FRAME (R93). -/
def execRevokeFrame (sender : Station) (tag : Tag) (reason : Reason) (s : State) : Outcome :=
  receiveFrame sender (.revoke tag reason) s

/-- STRING_FRAME (R24). -/
def execStringFrame (sender : Station) (image : StringImage) (s : State) : Outcome :=
  receiveFrame sender (.string image) s

/-- BEACON_FRAME (R55, R62). -/
def execBeaconFrame (sender : Station) (beacon : BeaconRecord) (s : State) : Outcome :=
  receiveFrame sender (.beacon beacon) s

/-- PARK_FRAME (R70). -/
def execParkFrame (sender : Station) (mask : Byte) (s : State) : Outcome := receiveFrame sender (.park mask) s

/-- MUSTER_FRAME (R53, R58). -/
def execMusterFrame (sender : Station) (role : Byte) (map : Eight RoleCode) (fault : Bool) (s : State) : Outcome :=
  receiveFrame sender (.muster role map fault) s

end Sys2Proof.Machine
end

