-- ==== Sys2Proof/Machine/Records.lean ====
section
/-! DEFINITION. The records the host reads, word by word (R59, R143, R158, R160, R185 to R187, R190). -/

namespace Sys2Proof.Machine

/-! ### Words -/

/-- A number in one word. -/
def oneWord (n : Nat) : List Word16 := [BitVec.ofNat 16 n]
/-- A signed value in one word. -/
def intWord (v : Int) : List Word16 := [BitVec.ofInt 16 v]
/-- A value in two words, the more significant first (R187). -/
def twoWords (v : Int) : List Word16 :=
  let w := BitVec.ofInt 32 v
  [w.extractLsb' 16 16, w.extractLsb' 0 16]
/-- A field that is absent, of `n` words: all ones (R187). -/
def absentWords (n : Nat) : List Word16 := List.replicate n 0xFFFF#16
/-- A field of one word that may be absent. -/
def optWord (o : Option Nat) : List Word16 := o.elim (absentWords 1) oneWord
/-- A flag in one word. -/
def flagWord (b : Bool) : List Word16 := oneWord (bit b)
/-- A list: its count word, then its elements (R187). -/
def listWords {α : Type} (f : α → List Word16) (l : List α) : List Word16 := oneWord l.length ++ l.flatMap f
/-- Eight values without a count word (log 14). -/
def eightWords {α : Type} (f : α → Nat) (t : Eight α) : List Word16 := t.toList.flatMap fun a => oneWord (f a)

/-! ### Peer entries, selectors 0..7 -/

/-- A beacon record's words, in the order of R35; `s` is its station. A string generation held that is NONE reads as an
absent field (log 14). -/
def BeaconRecord.words (s : Station) (b : BeaconRecord) : List Word16 :=
  oneWord s.val ++ oneWord b.role.toNat ++ oneWord b.mode.toNat ++ oneWord b.seq.toNat ++ intWord b.primary
    ++ intWord b.secondary ++ twoWords b.position ++ intWord b.output ++ flagWord b.atRest ++ flagWord b.stall
    ++ flagWord b.unkeyed ++ flagWord b.clearRefused ++ flagWord b.gated ++ eightWords (·.toNat) b.map
    ++ optWord (b.generation.map (·.toNat)) ++ listWords (fun t => oneWord (Tag.byte t).toNat) b.tags

/-- A peer entry's words, in the order of R59. -/
def PeerEntry.words (s : Station) (p : PeerEntry) : List Word16 :=
  oneWord 1 ++ oneWord p.admission.code ++ oneWord p.role.toNat
    ++ p.beacon.elim (absentWords 24) (BeaconRecord.words s)
    ++ optWord (p.lastSeq.map (·.toNat)) ++ oneWord p.silence ++ optWord (p.parkMask.map (·.toNat))
    ++ flagWord p.unadmitted ++ oneWord p.divergence

/-! ### The string record or copy, selector 8 -/

/-- A section's words: lock state, pocket index, extension (R2). -/
def sectionWords (lock : Nat) (pocket : Option Nat) (ext : Int) : List Word16 :=
  oneWord lock ++ optWord pocket ++ intWord ext

/-- The fields of R2 in their order; load path COMPLETE and certainty CERTAIN are code 0 (10-8). -/
def stringWords (generation : Byte) (count : Nat) (sections : List (List Word16)) (total slack : Int)
    (complete certain : Bool) (depth : Int) : List Word16 :=
  oneWord 1 ++ oneWord generation.toNat ++ oneWord count ++ listWords id sections ++ twoWords total ++ twoWords slack
    ++ flagWord (!complete) ++ flagWord (!certain) ++ twoWords depth

/-- HOIST's record as read (R2, R187). -/
def StringRecord.words (r : StringRecord) : List Word16 :=
  stringWords r.generation r.count (r.sections.map fun e => sectionWords e.lock.code e.lock.pocket e.ext) r.total
    r.slack r.loadComplete r.certain r.depth

/-- A copy as read (R24, R187): the pocket index is present when the lock state carried is SEATED, and the slack payout
takes two words as in HOIST's record (log 14). -/
def copyWords (g : StringImage) : List Word16 :=
  stringWords g.generation g.count
    (g.sections.map fun e => sectionWords e.lock.toNat (if e.lock = 2 then some e.pocket.toNat else none) e.ext)
    g.total g.slack g.loadComplete g.certain g.depth

/-! ### Claim entries, selectors 9..16 -/

/-- An entry's marks byte (10-9). -/
def ClaimEntry.marks (e : ClaimEntry) : Nat :=
  bit e.consent + 2 * bit e.revokeQueued + 4 * bit e.grantWindow.isSome + 8 * bit e.releasePending
    + 16 * bit e.takeQueued

/-- A word from its high and low byte. -/
def pairWord (hi lo : Nat) : List Word16 := oneWord (hi * 256 + lo)

/-- A claim table position as read (10-9). The blank low byte of word 6 reads 0 (log 14). -/
def claimWords (i : Nat) (e : Option ClaimEntry) : List Word16 :=
  match e with
  | none => pairWord 0 i
  | some e =>
    pairWord 1 i ++ pairWord e.tag.station.val e.tag.seq.toNat ++ pairWord e.kind.cls.code e.state.code
      ++ [e.kind.params] ++ pairWord e.consentSet.toNat e.grants.toNat ++ pairWord e.tag.station.val e.marks
      ++ pairWord (e.grantWindow.getD 0) 0

/-! ### The segment engine, selector 17 -/

/-- A segment's words, in the order of R123; fields its kind does not use are absent. -/
def Segment.words (x : Segment) : List Word16 :=
  let fields := match x.body with
    | .ramp target rate => intWord target ++ oneWord rate ++ absentWords 3
    | .level target count => intWord target ++ absentWords 1 ++ oneWord count ++ absentWords 2
    | .dwell count => absentWords 2 ++ oneWord count ++ absentWords 2
    | .mark => absentWords 5
    | .again base current => absentWords 3 ++ oneWord base ++ optWord current
  oneWord x.body.code ++ fields ++ flagWord x.completed

/-- Whether the current segment is a begun LEVEL or DWELL (R143). -/
def SegmentEngine.counting (e : SegmentEngine) : Bool :=
  e.begun && match e.current with
    | some ⟨.level _ _, _⟩ | some ⟨.dwell _, _⟩ => true
    | _ => false

/-- The segment engine record (R143). -/
def segmentWords (s : State) : List Word16 :=
  let e := s.segments
  oneWord 1 ++ oneWord e.state.code ++ oneWord e.queue.length ++ optWord e.pointer ++ flagWord e.begun
    ++ (if e.counting then oneWord e.remaining ++ oneWord e.accumulation else absentWords 2)
    ++ optWord (e.mark.bind (positionIn e.queue)) ++ flagWord (openMark e.queue).isSome
    ++ intWord (wholeUnits e.value) ++ intWord s.envelope.low ++ intWord s.envelope.high
    ++ intWord (wholeUnits s.envelope.demand) ++ optWord e.demandTimer ++ listWords Segment.words e.queue

/-! ### The lock-turn record, selector 18 -/

/-- The rotation account's class and direction (R158); R155 keeps a direction for ROTATE alone. -/
def RotationAccount.words : RotationAccount → List Word16
  | .none => absentWords 2
  | .rotateForward => oneWord 0 ++ oneWord 0
  | .rotateReverse => oneWord 0 ++ oneWord 1
  | .lockTurn => oneWord 1 ++ absentWords 1
  | .spinOff => oneWord 4 ++ absentWords 1
  | .crowdLoad => oneWord 2 ++ absentWords 1
  | .stringMove => oneWord 3 ++ absentWords 1
  | .casingTurn => oneWord 5 ++ absentWords 1

/-- The lock-turn record (R158). STALL and UNKEYED read 1 for set, as every flag of a record does; the code list of
10-8 for their event details numbers SET 0 (DEDUCED, log 14). -/
def LockTurnUnit.words (u : LockTurnUnit) : List Word16 :=
  oneWord 1 ++ oneWord u.state.code
    ++ u.turn.elim (absentWords 3) (fun t => oneWord (Tag.byte t.tag).toNat ++ oneWord t.sec ++ flagWord t.disengage)
    ++ twoWords ((u.angle / 1000 : Nat) : Int) ++ (if u.timerRunning then oneWord u.timer else absentWords 1)
    ++ flagWord u.armed ++ intWord (wholeUnits u.turnSpeed) ++ optWord (u.result.map ReleaseResult.code)
    ++ oneWord u.stallCount ++ flagWord u.stall ++ u.account.words ++ twoWords ((u.reverseAngle / 1000 : Nat) : Int)
    ++ flagWord u.unkeyed

/-! ### The trip record, selector 19, and the muster record, selector 20 -/

/-- A trip entry's words (R185). -/
def TripEntry.words (e : TripEntry) : List Word16 :=
  oneWord e.origin.val ++ oneWord (Cause.code e.cause) ++ flagWord (!e.isLocal) ++ flagWord e.acked

/-- The trip record with the state of R160 (R185). -/
def TripController.words (t : TripController) : List Word16 :=
  oneWord 1 ++ listWords TripEntry.words t.record ++ flagWord t.clearRefused ++ optWord t.safeDownTimer
    ++ oneWord t.restCount ++ eightWords (·.toNat) t.matchSets ++ flagWord t.gated ++ flagWord t.stopActive

/-- The muster record (R185): the window timer in periods left, rounded up. -/
def musterWords (s : State) : List Word16 :=
  let m := s.muster
  oneWord 1 ++ oneWord m.straps.station.val ++ oneWord m.straps.role.toNat ++ oneWord m.straps.period.toNat
    ++ eightWords (·.toNat) m.map ++ oneWord m.dupRoles.toNat ++ flagWord m.conflict ++ flagWord m.peerFault
    ++ optWord (m.windowTimer.map fun n => (n + s.period - 1) / s.period)

/-- The words of the record of a selector (R185, R187): a record that does not exist gives its presence word alone. -/
def recordWords (sel : Nat) (s : State) : List Word16 :=
  if h : sel < 8 then (s.peers.get ⟨sel, h⟩).words ⟨sel, h⟩
  else if sel = 8 then
    if s.isRole .hoist then s.strings.record.elim (oneWord 0) StringRecord.words
    else s.strings.copy.elim (oneWord 0) copyWords
  else if sel ≤ 16 then claimWords (sel - 9) s.claims.table[sel - 9]?
  else if sel = 17 then segmentWords s
  else if sel = 18 then s.lockTurn.words
  else if sel = 19 then s.trips.words
  else musterWords s

end Sys2Proof.Machine
end

