-- ==== Sys2Proof/Machine/HostPort.lean ====
section
/-! DEFINITION. The host port's commands: how each is judged, what it does and what it answers (R170, R177 to R189 and
the rule of each command). -/

namespace Sys2Proof.Machine

/-! ### Replies and the order of judging (R178) -/

/-- The state with a reply shifted out (R177; log 3). -/
def State.reply (st : Status) (bytes : List Byte) (s : State) : State :=
  { s with host := { s.host with reply := some { status := st, bytes := bytes } } }

/-- A refusal at origin, with its reason (R178). -/
def State.refuseLocal (r : LocalReason) (s : State) : State := s.reply .refusedLocal [codeByte r.code]

/-- The reply is NOT_READY to every command but RESET: in START, and from a RESET until its reset begins (R178, R179;
log 35). -/
def State.notReady (s : State) : Bool := decide (s.mode = .start) || s.host.resetTaken

/-- A command judged (R178): the reset state, then the mode, then the role; only then its own rules. -/
def serve (mode role : Bool) (act : State → State) (s : State) : Outcome :=
  .next <|
    if s.notReady then s.reply .notReady []
    else if !mode then s.reply .wrongMode []
    else if !role then s.reply .wrongRole []
    else act s

/-- The modes in which segments are taken (R178). -/
def Mode.takesSegments : Mode → Bool
  | .safed | .run | .parked => true
  | .start | .strapFault | .config | .muster | .musterFault | .safeDown | .lockout => false

/-! ### STATUS, events, ATTN (R180 to R184) -/

/-- The result of STATUS (R180, R189). The byte for NONE is a free value (log 8); the byte of the overrun flag is 1 where
it is set and 0 where it is clear (DESIGN CHOICE, log 53). -/
def statusBytes (s : State) : List Byte :=
  let m := s.muster
  [codeByte s.mode.code, codeByte m.straps.station.val, m.straps.role.setWidth 8, m.straps.period.setWidth 8,
    codeByte s.trips.record.length, codeByte (s.trips.record.filter (·.unacked)).length,
    (s.trips.record.getLast?).elim Config.statusNoneCause fun e => codeByte (Cause.code e.cause),
    m.resetCauses.setWidth 8, codeByte (bit s.host.overrun), codeByte s.host.events.length, 0, 0]

/-- STATUS (R180): the set is emptied and the overrun flag cleared after the result is formed. -/
def execStatus (s : State) : Outcome :=
  serve true true
    (fun s =>
      ({ s with
        muster := { s.muster with resetCauses := 0 }, host := { s.host with overrun := false } } : State).reply
        .done (statusBytes s))
    s

/-- A byte that is 255 when absent. -/
def optByte (o : Option Nat) : Byte := codeByte (o.getD 255)

/-- An event record as READ_EVENT returns it, with the number of records remaining (10-9). -/
def eventBytes (e : Event) (remaining : Nat) : List Byte :=
  [codeByte e.kind.code] ++ wordBytes e.stamp
    ++ [optByte (e.station.map (·.val)), optByte (e.tag.map (·.station.val)), optByte (e.tag.map (·.seq.toNat)),
      optByte e.sec, codeByte e.code, codeByte e.aux]
    ++ wordBytes (BitVec.ofNat 16 (held16 e.value)) ++ [codeByte remaining]

/-- READ_EVENT (R182). -/
def execReadEvent (s : State) : Outcome :=
  serve s.mode.readsAxis true
    (fun s =>
      match s.host.events with
      | [] => s.reply .empty []
      | e :: rest =>
        ({ s with
          host := { s.host with events := rest, attn := s.host.attn && !rest.isEmpty } } : State).reply
          .done (eventBytes e rest.length))
    s

/-- ACK_ATTN (R183). -/
def execAckAttn (s : State) : Outcome :=
  serve s.mode.readsAxis true
    (fun s => ({ s with host := { s.host with acked := true, attn := false } } : State).reply .done [])
    s

/-! ### Configuration (R50, R51, R188) -/

/-- The image after WRITE_CONFIG, or `none` where it is refused (R50, R188). -/
def writtenImage (s : State) (index : Byte) (block : BitVec 64) : Option Image :=
  let i := index.toNat
  if i < 60 then s.image.write s.muster.straps.role i (blockValue block)
  else if h : i - 60 < 8 then (parsePattern block).map (s.image.writePattern ⟨i - 60, h⟩)
  else none

/-- WRITE_CONFIG (R50, R188). -/
def execWriteConfig (index : Byte) (block : BitVec 64) (s : State) : Outcome :=
  serve (decide (s.mode = .config)) true
    (fun s =>
      match writtenImage s index block with
      | some g => ({ s with image := g } : State).reply .done []
      | none => s.reply .badValue [])
    s

/-- JOIN (R51, R52). -/
def execJoin (s : State) : Outcome :=
  serve (decide (s.mode = .config)) true
    (fun s =>
      match s.role.bind s.image.joinFault with
      | some i => s.reply .badValue [codeByte i]
      | none => (finish s (Work.begin s).enterMuster).reply .done [])
    s

/-! ### Records (R185, R186) -/

/-- SELECT_RECORD (R185). -/
def execSelectRecord (selector : Byte) (s : State) : Outcome :=
  serve s.mode.readsAxis true
    (fun s =>
      if selector.toNat ≤ 20 then
        ({ s with
          host := { s.host with selection := some selector.toNat, wordIndex := 0, changeMark := false } } : State).reply
          .done []
      else s.reply .badValue [])
    s

/-- One word returned at an index (R186). -/
def State.giveWord (s : State) (st : Status) (i : Nat) (w : Word16) : State :=
  ({ s with host := { s.host with wordIndex := i + 1, changeMark := false } } : State).reply st (wordBytes w)

/-- READ_WORD (R186). -/
def execReadWord (s : State) : Outcome :=
  serve s.mode.readsAxis true
    (fun s =>
      match s.host.selection with
      | none => s.reply .empty []
      | some sel =>
        let words := recordWords sel s
        if s.host.changeMark then s.giveWord .changed 0 (words.headD 0)
        else
          match words[s.host.wordIndex]? with
          | some w => s.giveWord .done s.host.wordIndex w
          | none => s.reply .empty [])
    s

/-! ### Segments (R124 to R126, R140) -/

/-- The segment a PUT_SEGMENT names, within the ranges of R123. -/
def parseSegment (role : RoleCode) (kind : Byte) (target rate count : Word16) (base : Byte) : Option SegmentBody :=
  let inRange := decide (quantityLow role ≤ target.toInt ∧ target.toInt ≤ quantityHigh role)
  match kind.toNat with
  | 0 => if inRange && decide (1 ≤ rate.toNat) then some (.ramp target.toInt rate.toNat) else none
  | 1 => if inRange && decide (1 ≤ count.toNat) then some (.level target.toInt count.toNat) else none
  | 2 => if 1 ≤ count.toNat then some (.dwell count.toNat) else none
  | 3 => some .mark
  | 4 => if 1 ≤ base.toNat then some (.again base.toNat none) else none
  | _ => none

/-- A segment put, after its values (R124): sequence, merge, capacity, placing. -/
def putSegment (b : SegmentBody) (s : State) : State :=
  let e := s.segments
  if e.badSequence b then s.refuseLocal .badSequence
  else
    match b, e.tailDwell with
    | .dwell n, some c =>
      (finish s (((Work.begin s).onSegments (·.merge c n)).touch 17)).reply .merged
        (codeByte e.queue.length :: wordBytes (BitVec.ofNat 16 (held16 (c + n))))
    | _, _ =>
      if e.queue.length < 16 then
        (finish s ((Work.begin s).onSegments (·.place b))).reply .done [codeByte (e.queue.length + 1), 0, 0]
      else s.reply .queueFull []

/-- PUT_SEGMENT (R124). -/
def execPutSegment (kind : Byte) (target rate count : Word16) (base : Byte) (s : State) : Outcome :=
  serve s.mode.takesSegments (!s.isRole .panel)
    (fun s =>
      match parseSegment s.muster.straps.role kind target rate count base with
      | some b => putSegment b s
      | none => s.reply .badValue [])
    s

/-- FLUSH_SEGMENTS (R140). -/
def execFlushSegments (s : State) : Outcome :=
  serve s.mode.takesSegments (!s.isRole .panel)
    (fun s =>
      (finish s ((Work.begin s).flushSegments 0)).reply .done [codeByte s.segments.queue.length])
    s

/-! ### Claims (R76 to R78, R89) -/

/-- The members of a class's consent set at this station's map (R73). -/
def State.members (s : State) (c : MotionClass) : List Station :=
  allStations.filter (inMask (consentSetOf s.muster.map c))

/-- A member's last admitted beacon shows PARKED, and its stored mask is absent or does not hold the class (R70,
R78). -/
def PeerEntry.parkedAgainst (c : MotionClass) (p : PeerEntry) : Bool :=
  (p.beacon.map fun b => decide (b.mode.toNat = Mode.code .parked)).getD false
    && !((p.parkMask.map (inClassMask · c)).getD false)

/-- The first local check that fails, in the order of R78, but for the queue's room. -/
def State.localRefusal (s : State) (kind : ClaimKind) : Option LocalReason :=
  let c := kind.cls
  if s.role ≠ some c.originator then some .role
  else if !(s.claims.table.all fun e => compatible e.kind kind)
      || !(s.link.queuedClaims.all fun q => compatible q.2 kind) then some .conflict
  else if s.trips.gated then some .gated
  else if (s.members c).any fun m => decide ((s.peers.get m).admission ≠ .fresh) then some .memberNotFresh
  else if (s.members c).any fun m => (s.peers.get m).parkedAgainst c then some .memberParked
  else if decide (c = .crowdLoad) && !s.loadPathComplete then some .loadPath
  else none

/-- The next own claim sequence whose tag is free (R76): `n` bounds the search; at most 31 tags can be taken. -/
def nextSeq (own : Station) (taken : List Tag) : Nat → BitVec 5 → BitVec 5
  | 0, q => q
  | n + 1, q =>
    if taken.contains { station := own, seq := q + 1 } then nextSeq own taken n (q + 1) else q + 1

/-- The tag a new own claim takes (R76). -/
def State.newTag (s : State) : Tag :=
  { station := s.own
    seq := nextSeq s.own (s.claims.liveTags ++ s.link.queuedClaims.map (·.1)) 32 s.claims.ownSeq }

/-- A request that passed its tests of value (R78). -/
def requestClaim (kind : ClaimKind) (s : State) : State :=
  match s.localRefusal kind with
  | some r => s.refuseLocal r
  | none =>
    if 12 ≤ s.link.count then s.reply .queueFull []
    else
      let tag := s.newTag
      (finish s (((Work.begin s).onClaims fun c => { c with ownSeq := tag.seq }).queueFrame (.claim tag kind))).reply
        .done [Tag.byte tag]

/-- REQUEST_CLAIM (R77, R78). -/
def execRequestClaim (cls : Byte) (params : Word16) (s : State) : Outcome :=
  serve (decide (s.mode = .run)) true
    (fun s =>
      match ClaimKind.parse cls params with
      | some kind => requestClaim kind s
      | none => s.reply .badValue [])
    s

/-- END_CLAIM (R89). -/
def execEndClaim (tag : Byte) (s : State) : Outcome :=
  serve (decide (s.mode = .run)) true
    (fun s =>
      match s.claims.find (Tag.ofByte tag) with
      | some e =>
        if e.isOwn s.own then
          (finish s ((Work.begin s).requestRelease e.tag (if e.isHeld then .complete else .cancelled))).reply .done []
        else s.reply .badValue []
      | none => s.reply .badValue [])
    s

/-! ### The operator and trips (R102, R170) -/

/-- SET_OPERATOR (R102). A mask with bit 6 or 7 or a dead-man byte above 1 is refused (log 16). -/
def execSetOperator (mask deadMan : Byte) (s : State) : Outcome :=
  serve s.mode.beaconing (s.isRole .panel)
    (fun s =>
      if classMaskWf mask && decide (deadMan.toNat ≤ 1) then
        let held := decide (deadMan = 1)
        let w := (Work.begin s).onEnvelope fun v => { v with enableSet := mask, deadManHeld := held }
        (finish s (w.revokeEach (fun e => e.consent && (!held || !inClassMask mask e.kind.cls)) .operator)).reply
          .done []
      else s.reply .badValue [])
    s

/-- SEND_CLEAR (R170). -/
def execSendClear (s : State) : Outcome :=
  serve s.mode.beaconing (s.isRole .panel)
    (fun s =>
      if s.link.holdsKind .clear then s.reply .done []
      else if 12 ≤ s.link.count then s.reply .queueFull []
      else (finish s ((Work.begin s).queueFrame .clear)).reply .done [])
    s

/-- ACK_TRIP (R170). -/
def execAckTrip (s : State) : Outcome :=
  serve s.mode.beaconing true
    (fun s =>
      let w := (Work.begin s).onTrips fun t =>
        { t with record := t.record.map fun e => if e.unacked then { e with acked := true } else e }
      (finish s w).reply .done [codeByte (s.trips.record.filter (·.unacked)).length])
    s

/-- FORCE_TRIP (R170). -/
def execForceTrip (s : State) : Outcome :=
  serve s.mode.beaconing true
    (fun s => (finish s ((Work.begin s).raise (.of .hostTrip))).reply .done [])
    s

/-! ### Parking (R120, R121) -/

/-- PARK's checks after the mask (R120): `none` where all pass. -/
def State.parkRefusal (s : State) : Option LocalReason :=
  if (s.claims.table.any (·.isOwn s.own)) || !s.link.queuedClaims.isEmpty then some .claimsLive
  else if s.claims.table.any (·.consent) then some .consentHeld
  else if s.envelope.demand ≠ 0 then some .notAtRest
  else none

/-- PARKED entered (R120). -/
def Work.enterParked (mask : Byte) (w : Work) : Work :=
  let w := ((w.setMode .parked).setAtRest).onTrips fun t => { t with ownParkMask := some mask }
  (w.queueFrame (.park mask)).post .claimEngine (.of .parked)

/-- PARK (R120). -/
def execPark (mask : Byte) (s : State) : Outcome :=
  serve (decide (s.mode = .run)) true
    (fun s =>
      if !classMaskWf mask then s.reply .badValue []
      else
        match s.parkRefusal with
        | some r => s.refuseLocal r
        | none =>
          if 12 ≤ s.link.count then s.reply .queueFull []
          else (finish s ((Work.begin s).enterParked mask)).reply .done [])
    s

/-- UNPARK (R121). -/
def execUnpark (s : State) : Outcome :=
  serve (decide (s.mode = .parked)) true
    (fun s =>
      let w := ((Work.begin s).setMode .run).onTrips fun t => { t with ownParkMask := none }
      (finish s (w.post .claimEngine (.of .unparked))).reply .done [])
    s

/-! ### RESET and what is no command (R44, R177, R179) -/

/-- RESET (R44, R179): taken in every mode; reset pending where a frame of the station's own is in transmission. -/
def execReset (s : State) : Outcome :=
  if s.host.resetTaken then .next (s.reply .notReady [])
  else
    .next (({ s with host := { s.host with resetTaken := true, resetPending := s.link.isSending } } : State).reply
      .done [])

/-- UNKNOWN_COMMAND (R177; log 18). -/
def execUnknownCommand (s : State) : Outcome := serve true true (·.reply .badValue []) s

/-- SELECT_PERIOD_ABANDONED (R177): no effect, and nothing posted. -/
def execSelectPeriodAbandoned (s : State) : Outcome := .next s

end Sys2Proof.Machine
end

