-- ==== Sys2Proof/Machine/Resets.lean ====
section
/-! DEFINITION. The resets, their release and the end of START (R43 to R48). -/

namespace Sys2Proof.Machine

/-- A reset of a kind begins (R44, R45): every block in its reset state, the cause set and the pins kept. -/
def State.resetBy (kind : ResetKind) (s : State) : State :=
  State.afterReset s.muster.pins kind (kind.addTo s.muster.resetCauses) s.axis.stopPin s.freeCount s.pending

/-- The reset is released (R45, R46, R48): the straps are latched from the pins, the image takes the defaults of the
latched role (log 17), and the event stamp counts from 0. -/
def State.release (s : State) : State :=
  { s with
    muster := { s.muster with straps := s.muster.pins, resetHeld := false },
    image := Image.defaults s.muster.pins.role,
    stamp := 0 }

/-- POWER_ON_RESET (R44): the reset cause set is replaced by POWER_ON. -/
def execPowerOnReset (s : State) : Outcome :=
  .next (State.afterReset s.muster.pins .powerOn (ResetKind.powerOn.addTo 0) s.axis.stopPin s.freeCount s.pending)

/-- LINE_RESET (R43, R44): at once; a deferred HOST reset is absorbed. -/
def execLineReset (s : State) : Outcome := .next (s.resetBy .line)

/-- The HOST reset applied (R44): it is released at once, the straps latched from the pins as they stand, but where a
POWER_ON or LINE reset is still held the node stays in reset until that one is released (DESIGN CHOICE, log 4). -/
def State.hostReset (s : State) : State := if s.muster.resetHeld then s.resetBy .host else (s.resetBy .host).release

/-- HOST_RESET_BEGINS (R44, R179): the reset taken by RESET begins, not before the end of the own frame's echo. -/
def execHostResetBegins (s : State) : Outcome :=
  if s.host.resetTaken && !s.link.isSending then .next s.hostReset else .next s

/-- RESET_RELEASE (R44, R46): a POWER_ON or LINE reset is released with these levels at the strap pins. With no reset
held the levels change and are not read (R46; DESIGN CHOICE, log 4). -/
def execResetRelease (pins : Straps) (s : State) : Outcome :=
  let s := { s with muster := { s.muster with pins := pins } }
  if s.muster.resetHeld then .next s.release else .next s

/-- Whether the latched straps are valid (R46). -/
def Straps.valid (p : Straps) : Bool := (Role.ofCode p.role).isSome && decide (p.period ≠ 3)

/-- START_END (R47, R48): 50 ms after release (log 26) the straps are examined. -/
def execStartEnd (s : State) : Outcome :=
  if s.mode = .start ∧ s.muster.resetHeld = false then
    let s := { s with stamp := 50 }
    if Straps.valid s.muster.straps then
      .next (finish s (((Work.begin s).setMode .config).post .musterUnit
        (.of .reset (code := s.muster.startKind.code))))
    else .next { s with mode := .strapFault }
  else .next s

end Sys2Proof.Machine
end

