-- ==== Sys2Proof/Machine/Dispatch.lean ====
section
/-! DEFINITION. One arm for each command (spec/opcode_table.json), in the table's order. -/

namespace Sys2Proof.Machine

/-- The effect of a command on everything but the queue of waiting commands. -/
def exec (i : Instr) (s : State) : Host.Outcome State Fault Refusal :=
  match i with
  | .powerOnReset => Sys2Proof.Machine.execPowerOnReset s
  | .lineReset => Sys2Proof.Machine.execLineReset s
  | .hostResetBegins => Sys2Proof.Machine.execHostResetBegins s
  | .resetRelease pins => Sys2Proof.Machine.execResetRelease pins s
  | .startEnd => Sys2Proof.Machine.execStartEnd s
  | .controlStep inputs => Sys2Proof.Machine.execControlStep inputs s
  | .segmentCountExpiry => Sys2Proof.Machine.execSegmentCountExpiry s
  | .demandTimerExpiry => Sys2Proof.Machine.execDemandTimerExpiry s
  | .lockTurnTimerExpiry => Sys2Proof.Machine.execLockTurnTimerExpiry s
  | .stopLineAsserted => Sys2Proof.Machine.execStopLineAsserted s
  | .stopLineNegated => Sys2Proof.Machine.execStopLineNegated s
  | .safeDownTimerExpiry => Sys2Proof.Machine.execSafeDownTimerExpiry s
  | .beaconTimerExpiry => Sys2Proof.Machine.execBeaconTimerExpiry s
  | .stringIntervalExpiry => Sys2Proof.Machine.execStringIntervalExpiry s
  | .musterSendExpiry => Sys2Proof.Machine.execMusterSendExpiry s
  | .musterWindowExpiry => Sys2Proof.Machine.execMusterWindowExpiry s
  | .silence3P station => Sys2Proof.Machine.execSilence3P station s
  | .silence8P station => Sys2Proof.Machine.execSilence8P station s
  | .grantWindowExpiry tag => Sys2Proof.Machine.execGrantWindowExpiry tag s
  | .contendForLink line => Sys2Proof.Machine.execContendForLink line s
  | .frameTaken => Sys2Proof.Machine.execFrameTaken s
  | .stallCountReached => Sys2Proof.Machine.execStallCountReached s
  | .safeDownComplete => Sys2Proof.Machine.execSafeDownComplete s
  | .attemptFailed => Sys2Proof.Machine.execAttemptFailed s
  | .linkRxError bits => Sys2Proof.Machine.execLinkRxError bits s
  | .tripFrame sender origin cause => Sys2Proof.Machine.execTripFrame sender origin cause s
  | .clearFrame sender => Sys2Proof.Machine.execClearFrame sender s
  | .claimFrame sender tag cls params => Sys2Proof.Machine.execClaimFrame sender tag cls params s
  | .grantFrame sender tag => Sys2Proof.Machine.execGrantFrame sender tag s
  | .takeFrame sender tag => Sys2Proof.Machine.execTakeFrame sender tag s
  | .releaseFrame sender tag result => Sys2Proof.Machine.execReleaseFrame sender tag result s
  | .refuseFrame sender tag reason => Sys2Proof.Machine.execRefuseFrame sender tag reason s
  | .revokeFrame sender tag reason => Sys2Proof.Machine.execRevokeFrame sender tag reason s
  | .stringFrame sender image => Sys2Proof.Machine.execStringFrame sender image s
  | .beaconFrame sender beacon => Sys2Proof.Machine.execBeaconFrame sender beacon s
  | .divergenceCountReached station => Sys2Proof.Machine.execDivergenceCountReached station s
  | .parkFrame sender mask => Sys2Proof.Machine.execParkFrame sender mask s
  | .musterFrame sender role map fault => Sys2Proof.Machine.execMusterFrame sender role map fault s
  | .status => Sys2Proof.Machine.execStatus s
  | .readEvent => Sys2Proof.Machine.execReadEvent s
  | .ackAttn => Sys2Proof.Machine.execAckAttn s
  | .writeConfig index block => Sys2Proof.Machine.execWriteConfig index block s
  | .join => Sys2Proof.Machine.execJoin s
  | .selectRecord selector => Sys2Proof.Machine.execSelectRecord selector s
  | .readWord => Sys2Proof.Machine.execReadWord s
  | .putSegment kind target rate count base => Sys2Proof.Machine.execPutSegment kind target rate count base s
  | .flushSegments => Sys2Proof.Machine.execFlushSegments s
  | .requestClaim cls params => Sys2Proof.Machine.execRequestClaim cls params s
  | .endClaim tag => Sys2Proof.Machine.execEndClaim tag s
  | .setOperator mask deadMan => Sys2Proof.Machine.execSetOperator mask deadMan s
  | .sendClear => Sys2Proof.Machine.execSendClear s
  | .ackTrip => Sys2Proof.Machine.execAckTrip s
  | .forceTrip => Sys2Proof.Machine.execForceTrip s
  | .park mask => Sys2Proof.Machine.execPark mask s
  | .unpark => Sys2Proof.Machine.execUnpark s
  | .reset => Sys2Proof.Machine.execReset s
  | .unknownCommand => Sys2Proof.Machine.execUnknownCommand s
  | .selectPeriodAbandoned => Sys2Proof.Machine.execSelectPeriodAbandoned s

end Sys2Proof.Machine
end

