-- ==== Sys2Proof/Safety.lean ====
section
/-! DEFINITION. The vocabulary of the statements: the parts of a state and what a command leaves unchanged, how a
command's events and change mark reach the Host Port, and the invariants that every step keeps. -/

namespace Sys2Proof.Machine

/-! ### Frames: which parts of the state a command may change -/

/-- The parts of a state that a frame names. The event queue, ATTN, the selection and the reply are told of by `Ends`,
the demand timer by `TimerFollows`; the free-value counter belongs to the model (log 30). -/
inductive Part where
  | mode | image | muster | link | peers | claims | strings | envelope | segments | lockTurn | trips | axis | stamp
  | pending
deriving DecidableEq, Repr

/-- A part is the same in two states; the Segment Engine's part is compared without its demand timer. -/
def Part.same (p : Part) (s t : State) : Prop :=
  match p with
  | .mode => t.mode = s.mode
  | .image => t.image = s.image
  | .muster => t.muster = s.muster
  | .link => t.link = s.link
  | .peers => t.peers = s.peers
  | .claims => t.claims = s.claims
  | .strings => t.strings = s.strings
  | .envelope => t.envelope = s.envelope
  | .segments => { t.segments with demandTimer := none } = { s.segments with demandTimer := none }
  | .lockTurn => t.lockTurn = s.lockTurn
  | .trips => t.trips = s.trips
  | .axis => t.axis = s.axis
  | .stamp => t.stamp = s.stamp
  | .pending => t.pending = s.pending

/-- Every part outside the list is unchanged. -/
def SameExcept (l : List Part) (s t : State) : Prop := ∀ p : Part, p ∉ l → p.same s t

/-! ### What a command's end tells the Host Port -/

/-- An event with the event stamp of a state. -/
def Event.stamped (e : Event) (stamp : Word16) : Event := { e with stamp := stamp }

/-- Records enter the event queue in turn, with the stamp of the command (R181, R183). -/
def HostPort.enterAll (es : List Event) (stamp : Word16) (h : HostPort) : HostPort :=
  es.foldl (fun h e => h.enter (e.stamped stamp)) h

/-- The event queue with its overrun flag and ATTN, in the next state, is what entering these records makes it. -/
def Posted (es : List Event) (s t : State) : Prop :=
  t.host.events = (s.host.enterAll es t.stamp).events ∧ t.host.overrun = (s.host.enterAll es t.stamp).overrun ∧
    t.host.acked = (s.host.enterAll es t.stamp).acked ∧ t.host.attn = (s.host.enterAll es t.stamp).attn

/-- A record of this contents is among those posted, with nothing else told of the others. -/
def Announces (e : Event) (s t : State) : Prop := ∃ es : List Event, e ∈ es ∧ Posted es s t

/-- The change mark is set where the selected record changed in a part that counts, and kept otherwise (R185). -/
def MarkFollows (touched : List Nat) (s t : State) : Prop :=
  t.host.changeMark =
    (s.host.changeMark || s.host.selection.any fun sel => touched.contains sel || recordChanged sel s t)

/-- The Host Port's selection and reset marks are unchanged. -/
def PortKept (s t : State) : Prop :=
  t.host.selection = s.host.selection ∧ t.host.wordIndex = s.host.wordIndex ∧
    t.host.resetPending = s.host.resetPending ∧ t.host.resetTaken = s.host.resetTaken

/-- The demand timer follows the starvation conditions: it starts where they begin, runs on while they hold and is
stopped while they do not (R138). -/
def TimerFollows (s t : State) : Prop :=
  t.segments.demandTimer =
    if t.starved then (if s.starved then s.segments.demandTimer else some s.image.demandTimeout) else none

/-- A command ended with these events posted and this reply standing. -/
def Ends (es : List Event) (touched : List Nat) (reply : Option Reply) (s t : State) : Prop :=
  Posted es s t ∧ MarkFollows touched s t ∧ PortKept s t ∧ TimerFollows s t ∧ t.host.reply = reply

/-- The reply with a status and no bytes after it. -/
def bare (st : Status) : Option Reply := some { status := st, bytes := [] }

/-- The station answers host commands: it is past START and no RESET has been taken (R178, R179). -/
def State.ready (s : State) : Bool := decide (s.mode ≠ .start) && !s.host.resetTaken

/-- A frame is placed at once where it is asked for: the mode sends frames and the queue has room (R32). -/
def State.canSend (s : State) : Bool := s.mode.transmits && decide (s.link.count < 12)

/-- A frame from a peer is delivered to the blocks: a beaconing mode, no frame of the station's own in transmission, and
a sender other than the station (R29, R34, R42). -/
def State.hears (s : State) (sender : Station) : Prop :=
  s.mode.beaconing = true ∧ s.link.isSending = false ∧ sender ≠ s.own

/-! ### Commands by group -/

/-- The sender and the frame of a command that delivers a received frame (R26). -/
def frameOfCommand : Instr → Option (Station × Frame)
  | .tripFrame s o c => some (s, .trip o c)
  | .clearFrame s => some (s, .clear)
  | .claimFrame s t c p => some (s, .claim t c p)
  | .grantFrame s t => some (s, .grant t)
  | .takeFrame s t => some (s, .take t)
  | .releaseFrame s t r => some (s, .release t r)
  | .refuseFrame s t r => some (s, .refuse t r)
  | .revokeFrame s t r => some (s, .revoke t r)
  | .stringFrame s g => some (s, .string g)
  | .beaconFrame s b => some (s, .beacon b)
  | .parkFrame s m => some (s, .park m)
  | .musterFrame s r m f => some (s, .muster r m f)
  | _ => none

/-- A command delivers a frame to the station's blocks in a beaconing mode (R30): received from a peer, or of the
station's own and taken, which acts at the sender as at each station that received it (R38). `l` is the Link Controller
that the blocks find: a frame taken has left the queue. -/
def Delivery (c : Instr) (sender : Station) (f : Frame) (l : LinkController) (s : State) : Prop :=
  (frameOfCommand c = some (sender, f) ∧ s.hears sender ∧ l = s.link) ∨
    (c = .frameTaken ∧ sender = s.own ∧ s.mode.beaconing = true ∧ s.host.resetTaken = false ∧
      l = { s.link with slot := none, attempts := 0 } ∧
      ∃ item fate,
        s.link.slot = some { item := item, sending := some { frame := f, fate := fate, echoFault := false } } ∧
        fate ≠ .unjudged)

/-- A beacon of a peer that is judged and passes: the map and the role agree, and the sequence is one that a peer which
has not restarted can show (R62, R63, R67). -/
def Admitted (sender : Station) (b : BeaconRecord) (s : State) : Prop :=
  s.hears sender ∧ b.wf = true ∧ b.map = s.muster.map ∧ b.role.toNat = (s.peers.get sender).role.toNat ∧
    ((s.peers.get sender).admission = .awaiting ∨
      ((s.peers.get sender).admission = .fresh ∨ (s.peers.get sender).admission = .stale) ∧
        ∀ l, (s.peers.get sender).lastSeq = some l → (b.seq - l).toNat ≤ 12)

/-- The match of a pattern begins between two states (R173). -/
def Begins (i : Fin 8) (s t : State) : Prop := s.trips.matchSets.get i = 0 ∧ t.trips.matchSets.get i ≠ 0

/-- The modes in which a host command other than RESET is taken (R170, R178 and the rule of each command); `none` for
what is no such command. -/
def commandModes : Instr → Option (List Mode)
  | .status | .unknownCommand =>
    some [.strapFault, .config, .muster, .musterFault, .safed, .run, .parked, .safeDown, .lockout]
  | .readEvent | .ackAttn | .selectRecord _ | .readWord =>
    some [.config, .muster, .musterFault, .safed, .run, .parked, .safeDown, .lockout]
  | .writeConfig _ _ | .join => some [.config]
  | .putSegment _ _ _ _ _ | .flushSegments => some [.safed, .run, .parked]
  | .requestClaim _ _ | .endClaim _ | .park _ => some [.run]
  | .unpark => some [.parked]
  | .setOperator _ _ | .sendClear | .ackTrip | .forceTrip => some [.safed, .run, .parked, .safeDown, .lockout]
  | _ => none

/-- The roles that a host command is open to: PANEL alone, every role but PANEL, or all (R102, R124, R140, R170). -/
def commandRole (c : Instr) (role : Option Role) : Prop :=
  match c with
  | .setOperator _ _ | .sendClear => role = some .panel
  | .putSegment _ _ _ _ _ | .flushSegments => role ≠ some .panel
  | _ => True

/-- A raw reading by its input. -/
def inputAt (inputs : AxisInputs) : AxisPlace → Int
  | .primary => inputs.primary
  | .secondary => inputs.secondary
  | .position => inputs.position

/-- What taking a stop-class cause in RUN or PARKED leaves (R162, R163), at a station that is no HOIST and whose
transmit queue has room: the entry recorded, SAFE_DOWN (PANEL: SAFED), the table and the segment queue empty, the timer
at its limit, the TRIP queued. -/
def CauseLeft (cause : Cause) (s t : State) : Prop :=
  t.mode = (if s.isRole .panel then .safed else .safeDown) ∧ t.claims.table = [] ∧ t.segments.queue = [] ∧
    t.segments.pointer = none ∧ t.segments.begun = false ∧
    t.trips.record = (enterTrip { origin := s.own, cause := cause, isLocal := true, acked := false } s.trips.record).1 ∧
    t.trips.ownParkMask = none ∧ t.trips.restCount = 0 ∧
    t.trips.safeDownTimer = (if s.isRole .panel then none else some s.image.safeDownLimit) ∧
    TxItem.trip s.own cause ∈ t.link.items ∧
    (s.isRole .crowd = false → s.isRole .panel = false → t.envelope = s.envelope) ∧
    SameExcept [.mode, .claims, .segments, .lockTurn, .trips, .link, .envelope, .axis, .peers] s t

/-- A fault-class cause of the station's own is taken (R161 to R163, R168): the event TRIP is posted, RUN and PARKED are
left, and SAFE_DOWN turns to LOCKOUT. -/
def FaultTaken (cause : Cause) (s t : State) : Prop :=
  (∃ aux value, Announces
    (Event.of .trip (station := some s.own) (code := cause.code) (aux := aux) (value := value)) s t) ∧
  (s.mode = .run ∨ s.mode = .parked → t.mode ≠ .run ∧ t.mode ≠ .parked) ∧ (s.mode = .safeDown → t.mode = .lockout)

/-- The relief factor is that of the torque in the FRESH ROTARY's record, and 0 where ROTARY is not FRESH (R71, R111). -/
def ReliefFormed (t : State) : Prop :=
  (∀ i b, t.stationOf .rotary = some i → (t.peers.get i).admission = .fresh → (t.peers.get i).beacon = some b →
    t.envelope.relief = reliefOf t.image.reliefOnset t.image.reliefEnd b.secondary) ∧
  ((∀ i, t.stationOf .rotary = some i → (t.peers.get i).admission ≠ .fresh) → t.envelope.relief = 0)

/-! ### Reset values -/

/-- The values the spec gives at every reset, block by block (R3, R43, R45, R60, R75, R99, R116 to R119, R122, R144,
R160, R179). The image stands at the defaults of R1 and R50 for the latched role, which reads code 0 until the release
(logs 4 and 17). -/
def ResetValues (t : State) : Prop :=
  (t.mode = .start ∧ t.stamp = 0 ∧ t.image.items = (itemRows t.muster.straps.role).map (·.default) ∧
    ∀ i, t.image.patterns.get i = none) ∧
  ((∀ i, t.muster.map.get i = roleNone) ∧ t.muster.dupRoles = 0 ∧
    t.muster.conflict = false ∧ t.muster.peerFault = false ∧ t.muster.windowTimer = none ∧
    t.muster.sendTimer = none ∧ t.muster.lateMarks = 0) ∧
  (t.link.items = [] ∧ t.link.attempts = 0 ∧ t.link.beaconSeq = 0 ∧ t.link.beaconTimer = none) ∧
  (∀ i, (t.peers.get i).admission = .absent ∧ (t.peers.get i).role = roleNone ∧ (t.peers.get i).beacon = none ∧
    (t.peers.get i).lastSeq = none ∧ (t.peers.get i).silence = 0 ∧ (t.peers.get i).parkMask = none ∧
    (t.peers.get i).unadmitted = false ∧ (t.peers.get i).divergence = 0) ∧
  (t.claims.table = [] ∧ t.claims.ownSeq = 0) ∧
  (t.strings.record = none ∧ t.strings.copy = none ∧ t.strings.refreshed = false ∧ t.strings.lastPayout = none ∧
    t.strings.lastTension = none ∧ t.strings.lastSledge = none ∧ t.strings.startPending = false ∧
    t.strings.mismatch = false ∧ t.strings.slackOver = false ∧ t.strings.queued = false ∧ t.strings.refTotal = none ∧
    t.strings.interval = none) ∧
  (t.envelope.low = 0 ∧ t.envelope.high = 0 ∧ t.envelope.followOn = false ∧ t.envelope.followTarget = 0 ∧
    t.envelope.keyedStop = false ∧ t.envelope.relief = 0 ∧ t.envelope.dropLatch = false ∧ t.envelope.enableSet = 0 ∧
    t.envelope.deadManHeld = false ∧ t.envelope.demand = 0) ∧
  (t.segments.queue = [] ∧ t.segments.pointer = none ∧ t.segments.begun = false ∧ t.segments.remaining = 0 ∧
    t.segments.accumulation = 0 ∧ t.segments.mark = none ∧ t.segments.value = 0 ∧ t.segments.state = .empty ∧
    t.segments.demandTimer = none) ∧
  (t.lockTurn.state = .idle ∧ t.lockTurn.turn = none ∧ t.lockTurn.angle = 0 ∧ t.lockTurn.timer = 0 ∧
    t.lockTurn.timerRunning = false ∧ t.lockTurn.armed = false ∧ t.lockTurn.turnSpeed = 0 ∧
    t.lockTurn.result = none ∧ t.lockTurn.stallCount = 0 ∧ t.lockTurn.stall = false ∧ t.lockTurn.account = .none ∧
    t.lockTurn.reverseAngle = 0 ∧ t.lockTurn.unkeyed = false) ∧
  (t.trips.record = [] ∧ t.trips.clearRefused = false ∧ t.trips.safeDownTimer = none ∧ t.trips.restCount = 0 ∧
    (∀ i, t.trips.matchSets.get i = 0) ∧ t.trips.gated = false ∧ t.trips.stopActive = false ∧
    t.trips.ownParkMask = none) ∧
  ((∀ place, (t.axis.input place).latest = none ∧ (t.axis.input place).outOfRange = false) ∧
    t.axis.limitMark = false ∧ t.axis.valve = 0 ∧ t.axis.brakeSet = true) ∧
  (t.host.events = [] ∧ t.host.overrun = false ∧ t.host.acked = false ∧ t.host.attn = false ∧
    t.host.selection = none ∧ t.host.wordIndex = 0 ∧ t.host.changeMark = false ∧ t.host.resetPending = false ∧
    t.host.resetTaken = false)

/-! ### Invariants -/

/-- ATTN is asserted exactly while an event waits that ACK_ATTN has not covered, and the event queue holds at most 32
records (R181, R183). -/
def HostSound (s : State) : Prop :=
  s.host.attn = (!s.host.events.isEmpty && !s.host.acked) ∧ s.host.events.length ≤ 32

/-- Every numeric item of the image lies within the range of its row for the station's role (R50). -/
def ImageSound (s : State) : Prop :=
  List.Forall₂ (fun v (row : ItemRow) => row.low ≤ v ∧ v ≤ row.high) s.image.items (itemRows s.muster.straps.role)

/-- The transmit queue holds at most 12 frames (R31). -/
def QueueSound (s : State) : Prop := s.link.count ≤ 12

/-- The trip record holds at most four entries (R160). -/
def TripSound (s : State) : Prop := s.trips.record.length ≤ 4

/-- The segment queue holds at most 16 segments (R122). -/
def SegmentSound (s : State) : Prop := s.segments.queue.length ≤ 16

/-- The live claims are compatible two by two and carry distinct tags (R74, R76, R80). -/
def ClaimSound (s : State) : Prop :=
  s.claims.table.Pairwise fun a b => compatible a.kind b.kind = true ∧ a.tag ≠ b.tag

/-- Outside RUN and SAFE_DOWN the demand is at the rest value, the brake set and the valve output 0 (R113, R116,
R119). -/
def RestOutside (s : State) : Prop :=
  s.mode ≠ .run → s.mode ≠ .safeDown → s.envelope.demand = 0 ∧ s.axis.brakeSet = true ∧ s.axis.valve = 0

/-- A reset that is held stands in START (R45). -/
def HeldStart (s : State) : Prop := s.muster.resetHeld = true → s.mode = .start

/-- Outside the beaconing modes no peer has been admitted: every entry is ABSENT, as the reset left it (R60, R61). -/
def PeersAbsent (s : State) : Prop := s.mode.beaconing = false → ∀ i, (s.peers.get i).admission = .absent

/-- A CROWD station presses only under the crowd force permit (R110). -/
def CrowdSound (s : State) : Prop := s.isRole .crowd = true → 0 < s.envelope.demand → s.crowdPermit = true

/-- Every section of a list, the first being section 2, is extended by no less than 0 and no more than its stroke (R2). -/
def WithinStrokes (g : Image) (l : List SectionEntry) : Prop :=
  ∀ (i : Nat) (x : SectionEntry), l[i]? = some x → 0 ≤ x.ext ∧ x.ext ≤ g.stroke (i + 2)

/-- After CONFIG the image passes JOIN's check of the station's role (R51). -/
def JoinedImage (s : State) : Prop :=
  s.mode ∉ [Mode.start, .strapFault, .config] → ∀ role, s.role = some role → s.image.joinFault role = none

/-- A string record is HOIST's, present in the beaconing modes alone, with the sections of its image, each within its
stroke (R2, R17). -/
def StringSound (s : State) : Prop :=
  ∀ r, s.strings.record = some r →
    s.isRole .hoist = true ∧ s.mode.beaconing = true ∧ r.sections.length + 1 = s.image.sectionCount ∧
      WithinStrokes s.image r.sections

/-- A relation that every step keeps: where the step answers a next state, it holds there. -/
def KeptByStep (inv : State → Prop) : Prop := ∀ s t : State, inv s → step s = .next t → inv t

end Sys2Proof.Machine
end

