-- ==== Sys2Proof/Certificates/Slice0/Obligations.lean ====
section
/-! DEFINITION. The statements for the provers, family by family: the queue of commands, resets, the clock, the link,
the frames, the host port, and the invariants that every step keeps. -/

open Sys2Proof Sys2Proof.Machine

/-! ### The queue of commands -/

/-- A step takes the command at the front and is its meaning on the state with the queue's rest; on an empty queue the
block idles (DESIGN CHOICE, log 2). -/
def Obligations.StepTakesTheFront : Prop :=
  (∀ (c : Instr) (rest : List Instr) (s : State), s.pending = c :: rest →
    step s = exec c { s with pending := rest }) ∧
  ∀ s : State, s.pending = [] → step s = .next s

/-! ### Resets (R43 to R48) -/

/-- The three resets put every block in its reset state; POWER_ON replaces the reset cause set, the others add to it;
the reset that a RESET asked for begins once no own frame is in transmission, and is released as soon as it has been
applied, with the straps latched from the pins as they stand, unless an earlier reset is still held (R43 to R46; that
case and the pins' levels between releases are log 4, the image before a release log 17). -/
def Obligations.ResetsPutEveryBlockInItsResetState : Prop :=
  ∀ s : State,
    (∃ t, exec .powerOnReset s = .next t ∧ ResetValues t ∧ t.muster.resetHeld = true ∧
      t.muster.resetCauses = 1#3 ∧ t.muster.startKind = .powerOn ∧ t.muster.pins = s.muster.pins ∧
      t.pending = s.pending) ∧
    (∃ t, exec .lineReset s = .next t ∧ ResetValues t ∧ t.muster.resetHeld = true ∧
      t.muster.resetCauses = s.muster.resetCauses ||| 2#3 ∧ t.muster.startKind = .line ∧
      t.muster.pins = s.muster.pins ∧ t.pending = s.pending) ∧
    (s.host.resetTaken = true → s.link.isSending = false →
      ∃ t, exec .hostResetBegins s = .next t ∧ ResetValues t ∧ t.muster.resetHeld = s.muster.resetHeld ∧
        (s.muster.resetHeld = false → t.muster.straps = s.muster.pins) ∧ t.muster.resetCauses = s.muster.resetCauses ||| 4#3 ∧
        t.muster.startKind = .host ∧ t.muster.pins = s.muster.pins ∧ t.pending = s.pending)

/-- A RESET is answered DONE, and NOT_READY while an earlier one waits; while a frame of the station's own is in
transmission its reset waits, the station does not contend, and that frame's end is judged neither taken nor failed
(R43, R44; the interval's form is log 35). At its release a held reset latches the straps, gives the image the defaults
of the latched role and starts the stamp count at 0 (the role of the defaults is log 17); later levels at the pins are
not read (R46; log 4). At the end of START valid straps lead to CONFIG with the event RESET, invalid ones to STRAP_FAULT
with no event (R45 to R48). -/
def Obligations.ResetsBeginAndEnd : Prop :=
  (∀ s : State,
    (s.host.resetTaken = false →
      exec .reset s = .next { s with
        host := { s.host with
          resetTaken := true, resetPending := s.link.isSending, reply := bare .done } }) ∧
    (s.host.resetTaken = true → exec .reset s = .next (s.reply .notReady [])) ∧
    (s.link.isSending = true → exec .hostResetBegins s = .next s) ∧
    (s.host.resetTaken = true → ∀ line, exec (.contendForLink line) s = .next s) ∧
    ∀ i x, s.link.slot = some { item := i, sending := some x } → s.host.resetTaken = true → x.fate ≠ .unjudged →
      ∀ c, c = .frameTaken ∨ c = .attemptFailed →
        ∃ t, exec c s = .next t ∧ t.link.items = s.link.items ∧ t.link.isSending = false ∧
          t.link.attempts = s.link.attempts ∧ SameExcept [.link] s t ∧ Ends [] [] s.host.reply s t) ∧
  (∀ (pins : Straps) (s : State),
    (s.muster.resetHeld = false →
      exec (.resetRelease pins) s = .next { s with muster := { s.muster with pins := pins } }) ∧
    (s.muster.resetHeld = true →
      ∃ t, exec (.resetRelease pins) s = .next t ∧
        t.muster = { s.muster with pins := pins, straps := pins, resetHeld := false } ∧
        t.image = Image.defaults pins.role ∧ t.stamp = 0 ∧ SameExcept [.muster, .image, .stamp] s t ∧
        t.host = s.host)) ∧
  ∀ s : State, s.mode = .start → s.muster.resetHeld = false →
    ((s.muster.straps.role.toNat ≤ 4 ∧ s.muster.straps.period.toNat ≤ 2) →
      ∃ t, exec .startEnd s = .next t ∧ t.mode = .config ∧ SameExcept [.mode, .stamp] s t ∧
        Ends [Event.of .reset (code := s.muster.startKind.code)] [] s.host.reply s t) ∧
    (¬ (s.muster.straps.role.toNat ≤ 4 ∧ s.muster.straps.period.toNat ≤ 2) →
      ∃ t, exec .startEnd s = .next t ∧ t.mode = .strapFault ∧ SameExcept [.mode, .stamp] s t ∧ t.host = s.host)

/-- The state after the first reset satisfies every invariant stated below. -/
def Obligations.ResetStateIsSound : Prop :=
  HostSound State.reset ∧ ImageSound State.reset ∧ QueueSound State.reset ∧ TripSound State.reset ∧
    SegmentSound State.reset ∧ ClaimSound State.reset ∧ RestOutside State.reset ∧ HeldStart State.reset ∧
    PeersAbsent State.reset ∧ CrowdSound State.reset ∧ JoinedImage State.reset ∧ StringSound State.reset ∧
    ResetValues State.reset

/-! ### Invariants -/

/-- Every step keeps the Host Port's rule of ATTN and the size of its event queue (R181, R183). -/
def Obligations.StepKeepsAttention : Prop := KeptByStep HostSound

/-- Every step keeps each numeric configuration item within its range (R50). -/
def Obligations.StepKeepsTheImageInRange : Prop := KeptByStep ImageSound

/-- Every step keeps the transmit queue, the trip record and the segment queue within their sizes (R31, R122, R160). -/
def Obligations.StepKeepsTheStoresBounded : Prop :=
  KeptByStep QueueSound ∧ KeptByStep TripSound ∧ KeptByStep SegmentSound

/-- Every step keeps the live claims compatible two by two and their tags distinct (R74, R76, R80). -/
def Obligations.StepKeepsClaimsCompatible : Prop := KeptByStep ClaimSound

/-- Outside RUN and SAFE_DOWN every step leaves the axis at rest and braked; a held reset stands in START; and before
the muster has closed no peer is admitted (R45, R60, R61, R113, R116, R119). -/
def Obligations.StepKeepsRestOutsideMotion : Prop :=
  KeptByStep RestOutside ∧ KeptByStep HeldStart ∧ KeptByStep PeersAbsent

/-- Every step keeps the crowd from pressing without its permit, in states that satisfy the invariants it rests on
(R110). -/
def Obligations.StepKeepsCrowdUnderPermit : Prop :=
  KeptByStep fun s =>
    ImageSound s ∧ ClaimSound s ∧ RestOutside s ∧ HeldStart s ∧ CrowdSound s

/-- Every step keeps each section of HOIST's string within 0 and its stroke, in states that satisfy the invariants it
rests on: past CONFIG the image has passed JOIN's check, so no pocket lies beyond a stroke (R1, R2, R51). -/
def Obligations.StepKeepsTheStringWithinItsStrokes : Prop :=
  KeptByStep fun s => ImageSound s ∧ HeldStart s ∧ JoinedImage s ∧ StringSound s

/-! ### The control step and the timers -/

/-- A control step reads every input of the role, from CONFIG on: a reading within its range is taken, one outside it
sets the input's mark and leaves the last, the mark's rise raising SENSOR_FAULT (R117). The limit mark follows the
latest primary reading against the hard limits, and its rise raises LIMIT (R118, R162, R168). Before CONFIG only the
stamp count runs, and in a held reset nothing does (R45, R181; log 1). -/
def Obligations.ControlStepReadsTheInputs : Prop :=
  ∀ (inputs : AxisInputs) (s : State),
    (s.muster.resetHeld = true → exec (.controlStep inputs) s = .next s) ∧
    (s.muster.resetHeld = false → s.mode = .start ∨ s.mode = .strapFault →
      exec (.controlStep inputs) s = .next { s with stamp := s.stamp + 1 }) ∧
    (s.muster.resetHeld = false → s.mode ≠ .start → s.mode ≠ .strapFault →
      ∃ t, exec (.controlStep inputs) s = .next t ∧ t.stamp = s.stamp + 1 ∧ t.image = s.image ∧
        t.muster.straps = s.muster.straps ∧ t.pending = s.pending ∧
        (∀ place low high, (s.role.bind fun r => validRange r place) = some (low, high) →
          t.axis.input place =
            if low ≤ inputAt inputs place ∧ inputAt inputs place ≤ high then
              { latest := some (inputAt inputs place), outOfRange := false }
            else { latest := (s.axis.input place).latest, outOfRange := true }) ∧
        (∀ place low high, (s.role.bind fun r => validRange r place) = some (low, high) →
          (s.axis.input place).outOfRange = false → inputAt inputs place < low ∨ high < inputAt inputs place →
          FaultTaken .sensorFault s t) ∧
        ∀ v, s.hasAxis = true → t.axis.primary.latest = some v →
          t.axis.limitMark = decide (v < s.image.hardLow ∨ s.image.hardHigh < v) ∧
          (s.axis.limitMark = false → v < s.image.hardLow ∨ s.image.hardHigh < v → FaultTaken .limit s t))

/-- A control step that stays in RUN marks the keyed stop, with KEYED_STOP where it begins to act (R109), and forms the
combined envelope and the demand from it: the target limited to the envelope where the last demand lies within it, the
withdraw ramp where it lies outside (R112, R113; for the keyed stop in the envelope log 10). The brake is released while
the demand is not at rest or the station follows (R116; the test of the demand to its thousandths is log 41), and the
valve then adds the error in permille of the span (R119). -/
def Obligations.ControlStepFormsTheDemand : Prop :=
  ∀ (inputs : AxisInputs) (s : State), s.mode = .run → s.hasAxis = true → s.muster.resetHeld = false →
    ∃ t, exec (.controlStep inputs) s = .next t ∧
      (t.mode = .run →
        t.envelope.keyedStop = t.keyedActs ∧
        (t.keyedActs = true → s.envelope.keyedStop = false → Announces (Event.of .keyedStop) s t) ∧
        (t.envelope.low, t.envelope.high) = t.combinedEnvelope (t.keyedActs || s.envelope.keyedStop) ∧
        t.envelope.demand =
          (if 1000 * t.envelope.low ≤ s.envelope.demand ∧ s.envelope.demand ≤ 1000 * t.envelope.high then
            max (1000 * t.envelope.low) (min (1000 * t.envelope.high) (Work.begin t).target)
          else if s.envelope.demand < 1000 * t.envelope.low then
            min (1000 * t.envelope.low) (s.envelope.demand + s.image.withdrawRate)
          else max (1000 * t.envelope.high) (s.envelope.demand - s.image.withdrawRate)) ∧
        (t.axis.brakeSet = false ↔
          (t.envelope.demand ≠ 0 ∨ t.envelope.followOn = true) ∧ ¬ (t.holdsHold = true ∧ t.envelope.demand = 0)) ∧
        (t.axis.brakeSet = true → t.axis.valve = 0) ∧
        ∀ v span, t.axis.primary.latest = some v →
          (s.role, span) ∈ [(some Role.hoist, 3000), (some .crowd, 1200), (some .rotary, 600), (some .casing, 400)] →
          t.axis.brakeSet = false →
          t.axis.valve =
            max (-1000) (min 1000 (s.axis.valve + ((t.envelope.demand.tdiv 1000 - v) * 1000).tdiv span)))

/-- The combined envelope of R112: in RUN at a station with an axis what lies within the hard limits, the originator
envelope of each own HELD entry (R108; a class that the role does not originate has the rest value alone, log 37), the
consent envelope of each entry whose consent mark is set (R104 to R106), and, with no own HELD entry and the follow
state OFF, at the rest value; elsewhere the rest value alone. `keyed` says that the keyed stop holds the raise; it acts
on an own HELD raise while a section is SEATED or DOUBTFUL and the other extensions sum to 0 (R109). The envelope
contains the rest value where the limits of the image do. -/
def Obligations.EnvelopesAreFormed : Prop :=
  ∀ (s : State) (keyed : Bool) (low high : Int), s.combinedEnvelope keyed = (low, high) →
    (s.keyedActs = true ↔
      (∃ e ∈ s.claims.table, e.isOwn s.own = true ∧ e.state = .held ∧ e.kind = .stringMove true) ∧
        ∃ r, s.strings.record = some r ∧ (∃ x ∈ r.sections, x.fixed = true) ∧
          extSum (r.sections.filter fun x => !x.fixed) = 0) ∧
    (s.mode ≠ .run ∨ s.hasAxis = false → low = 0 ∧ high = 0) ∧
    (s.mode = .run → s.hasAxis = true → ∀ v : Int, low ≤ v ∧ v ≤ high ↔
      (s.image.hardLow ≤ v ∧ v ≤ s.image.hardHigh) ∧
      (∀ e ∈ s.claims.table, e.isOwn s.own = true → e.state = .held →
        match s.role, e.kind with
        | some .rotary, .rotate false => 0 ≤ v ∧ v ≤ if s.lockTurn.stall then 0 else 300
        | some .rotary, .rotate true => -300 ≤ v ∧ v ≤ 0
        | some .rotary, .lockTurn _ false => 0 ≤ v ∧ v ≤ s.image.lockSpeed
        | some .rotary, .lockTurn _ true => -s.image.lockSpeed ≤ v ∧ v ≤ 0
        | some .rotary, .spinOff => -s.image.spinLimit ≤ v ∧ v ≤ s.image.spinLimit
        | some .crowd, .crowdLoad ceiling => 0 ≤ v ∧ v ≤ s.crowdCeiling ceiling
        | some .hoist, .stringMove false => 0 ≤ v ∧ v ≤ 1500
        | some .hoist, .stringMove true => (if keyed then 0 else -1500) ≤ v ∧ v ≤ 0
        | some .casing, .casingTurn => -200 ≤ v ∧ v ≤ 200
        | _, _ => v = 0) ∧
      (∀ e ∈ s.claims.table, e.consent = true →
        match s.role, e.kind with
        | some .hoist, .rotate _ | some .hoist, .crowdLoad _ =>
          -s.image.followSpeedLimit ≤ v ∧ v ≤ s.image.followSpeedLimit
        | some .hoist, .lockTurn _ _ | some .hoist, .spinOff => v = 0
        | some .hoist, .casingTurn => -s.image.creepHoist ≤ v ∧ v ≤ s.image.creepHoist
        | some .crowd, .lockTurn _ _ | some .crowd, .stringMove _ => v = 0
        | some .rotary, .crowdLoad _ => 0 ≤ v ∧ v ≤ 300
        | some .rotary, .stringMove _ => v = 0
        | some .casing, .stringMove _ | some .casing, .spinOff => v = 0
        | _, _ => True) ∧
      ((∀ e ∈ s.claims.table, e.isOwn s.own = true → e.state ≠ .held) → s.envelope.followOn = false → v = 0)) ∧
    (s.image.hardLow ≤ 0 → 0 ≤ s.image.hardHigh → 0 ≤ s.image.lockSpeed → 0 ≤ s.image.spinLimit →
      0 ≤ s.image.maxForce → 0 ≤ s.image.followSpeedLimit → 0 ≤ s.image.creepHoist → low ≤ 0 ∧ 0 ≤ high)

/-- The relief factor: 1000 permille up to T1, 0 from T2 on, falling between; a CROWD forms it at every control step and
at every admitted beacon from the torque of the FRESH ROTARY's record, 0 where ROTARY is not FRESH (R111). The crowd
force permit by its conditions; the crowd ceiling under it is no higher than the claim's ceiling nor than the maximum
force it scales, and is 0 without the permit (R110). -/
def Obligations.ReliefFallsBetweenItsTorques : Prop :=
  (∀ t1 t2 torque : Int, t1 < t2 →
    (torque ≤ t1 → reliefOf t1 t2 torque = 1000) ∧
    (t2 ≤ torque → reliefOf t1 t2 torque = 0) ∧
    (t1 < torque → torque < t2 → (reliefOf t1 t2 torque : Int) = 1000 * (t2 - torque) / (t2 - t1)) ∧
    reliefOf t1 t2 torque ≤ 1000 ∧ ∀ higher, torque ≤ higher → reliefOf t1 t2 higher ≤ reliefOf t1 t2 torque) ∧
  (∀ (inputs : AxisInputs) (s : State), s.isRole .crowd = true → s.mode.readsAxis = true →
    s.muster.resetHeld = false → ∃ t, exec (.controlStep inputs) s = .next t ∧ ReliefFormed t) ∧
  (∀ (sender : Station) (b : BeaconRecord) (s : State), Admitted sender b s → s.isRole .crowd = true →
    ∃ t, exec (.beaconFrame sender b) s = .next t ∧ (t.peers.get sender).beacon = some b ∧ ReliefFormed t) ∧
  ∀ (s : State) (ceiling : Nat),
    (s.crowdPermit = true ↔
      s.isRole .crowd = true ∧
        (∃ e ∈ s.claims.table, e.isOwn s.own = true ∧ e.state = .held ∧ e.kind.cls = .crowdLoad) ∧
        (∃ g, s.strings.copy = some g ∧ g.loadComplete = true ∧ g.certain = true) ∧ s.strings.refreshed = true ∧
        (∃ i, s.stationOf .hoist = some i ∧ (s.peers.get i).admission = .fresh) ∧
        (∃ i, s.stationOf .rotary = some i ∧ (s.peers.get i).admission = .fresh) ∧ s.envelope.dropLatch = false) ∧
    (s.crowdPermit = false → s.crowdCeiling ceiling = 0) ∧
    (s.crowdPermit = true → s.crowdCeiling ceiling = min (ceiling : Int) (s.image.maxForce * s.envelope.relief / 1000)) ∧
    (0 ≤ s.image.maxForce → s.envelope.relief ≤ 1000 →
      0 ≤ s.crowdCeiling ceiling ∧ s.crowdCeiling ceiling ≤ ceiling ∧ s.crowdCeiling ceiling ≤ s.image.maxForce)

/-- The HOIST follow state in RUN: ON while a ROTATE or CROWD_LOAD consent is held and no HOLD consent, the target
moving toward 5 mm/s a kilonewton of tension above the follow tension by the withdraw rate, from the demand then
standing; OFF otherwise (R105 to R107). In RUN and PARKED a consent whose hold condition fails is revoked: LOCK_TURN
below the hang threshold with TENSION_LOST, CROWD_LOAD on a broken load path with LOAD_PATH (R92, R103). The target
moves in the step that turns the state ON, and the hold conditions are tested after the step's inputs and string (log
10). -/
def Obligations.HoistFollowsAndHolds : Prop :=
  (∀ (inputs : AxisInputs) (s : State), s.isRole .hoist = true → s.mode = .run → s.muster.resetHeld = false →
    ∃ t, exec (.controlStep inputs) s = .next t ∧
      (t.mode = .run →
        (t.envelope.followOn = true ↔
          (∃ e ∈ s.claims.table, e.consent = true ∧ (e.kind.cls = .rotate ∨ e.kind.cls = .crowdLoad)) ∧
            ∀ e ∈ s.claims.table, e.consent = true → e.kind.cls ≠ .lockTurn ∧ e.kind.cls ≠ .spinOff) ∧
        (t.envelope.followOn = true →
          (s.envelope.followOn = false → Announces (Event.of .follow (code := 1)) s t) ∧
          ∀ tension, t.axis.secondary.latest = some tension → ∀ aim limit, limit = s.image.followSpeedLimit →
            aim = 1000 * max (-limit) (min limit (5 * (tension - s.image.followTension))) →
            t.envelope.followTarget =
              moveToward (if s.envelope.followOn then s.envelope.followTarget else s.envelope.demand) aim
                s.image.withdrawRate) ∧
        (t.envelope.followOn = false → s.envelope.followOn = true →
          t.envelope.followTarget = 0 ∧ Announces (Event.of .follow (code := 0)) s t))) ∧
  ∀ (inputs : AxisInputs) (s : State), s.isRole .hoist = true → s.mode = .run ∨ s.mode = .parked →
    s.muster.resetHeld = false → ClaimSound s →
    ∃ t, exec (.controlStep inputs) s = .next t ∧
      (t.mode = s.mode → ∀ fails : ClaimEntry → Option Reason,
        (∀ e, fails e =
          if e.kind.cls = .lockTurn ∧ ∀ tension, t.axis.secondary.latest = some tension →
              tension < s.image.hangThreshold then some .tensionLost
          else if e.kind.cls = .crowdLoad ∧ t.loadPathComplete = false then some .loadPath
          else none) →
        t.claims.table = s.claims.table.map (fun e =>
          { e with
            grantWindow := e.grantWindow.map (· - 1)
            revokeQueued := e.revokeQueued || (e.consent && (fails e).isSome) }) ∧
        ∀ e ∈ s.claims.table, e.consent = true → e.revokeQueued = false → ∀ reason, fails e = some reason →
          TxItem.revoke e.tag reason ∈ t.link.items)

/-- HOIST's string record in a control step. The slack payout follows the change of payout while the rope is slack and
goes to 0, with STRING_SHIFT, when it hangs; the slack mark follows the limit, and its rise raises SLACK_ROPE (R5, R7 to
R9). The rise of the mismatch mark raises STRING_MISMATCH, each section being within its stroke, which every step keeps
(R2, R11). A CERTAIN record is dealt out anew from the measured extension, with its total, tool depth, load path,
mismatch mark and generation; an UNCERTAIN one stays frozen (R10 to R12, R14 to R16). The dealing is innermost first,
each section up to its stroke, those held fixed untouched (R4, R10). -/
def Obligations.StringRecordIsRecomputed : Prop :=
  (∀ (inputs : AxisInputs) (s : State) (r : StringRecord), s.mode.readsAxis = true → s.muster.resetHeld = false →
    s.strings.record = some r →
    ∃ t, exec (.controlStep inputs) s = .next t ∧
      ∀ before payout tension sledge, s.strings.lastPayout = some before →
        t.axis.position.latest = some payout → t.axis.secondary.latest = some tension →
        s.strings.lastSledge = some sledge →
      ∀ slack rest,
        slack =
          (if s.image.hangThreshold ≤ tension then 0
          else if 0 ≤ payout - before then r.slack + (payout - before)
          else max 0 (r.slack + (payout - before))) →
        rest = payout - s.image.restPayout - sledge - slack - fixedSum r.sections →
      (s.strings.slackOver = false → s.image.slackLimit < slack → FaultTaken .slackRope s t) ∧
      (r.certain = true → WithinStrokes s.image r.sections → s.strings.mismatch = false →
        rest < -s.image.window ∨ freeStrokes s.image 2 r.sections + s.image.window < rest →
        FaultTaken .stringMismatch s t) ∧
      (t.mode = s.mode →
        t.strings.lastPayout = some payout ∧ t.strings.lastTension = some tension ∧
        t.strings.lastSledge = some sledge ∧
        ∃ r', t.strings.record = some r' ∧
          r'.slack = slack ∧ t.strings.slackOver = decide (s.image.slackLimit < slack) ∧
          (s.image.hangThreshold ≤ tension → 0 < r.slack →
            Announces (Event.of .stringShift (value := held16 r.slack.toNat)) s t) ∧
          (r.certain = false → r' = { r with slack := slack }) ∧
          (r.certain = true →
            r'.certain = true ∧ r'.count = r.count ∧
            r'.sections = (deal s.image 2 r.sections (max 0 rest)).1 ∧ r'.total = extSum r'.sections ∧
            r'.depth = s.image.depthOffset + sledge + r'.total ∧
            r'.loadComplete = r'.sections.all (·.passes) ∧
            t.strings.mismatch = decide (rest < -s.image.window ∨
              freeStrokes s.image 2 r.sections + s.image.window < rest) ∧
            r'.generation =
              if r'.sections.map (·.lock) = r.sections.map (·.lock) ∧ r'.loadComplete = r.loadComplete then
                r.generation
              else r.generation + 1))) ∧
  ∀ (g : Image) (k : Nat) (l l' : List SectionEntry) (rest : Int), 0 ≤ rest → (∀ j, 0 ≤ g.stroke j) →
    l' = (deal g k l rest).1 →
    l'.length = l.length ∧ extSum l' = fixedSum l + min rest (freeStrokes g k l) ∧
    (∀ (i : Nat) (e : SectionEntry), l[i]? = some e → e.fixed = true → l'[i]? = some e) ∧
    (∀ (i : Nat) (e : SectionEntry), l[i]? = some e → e.fixed = false →
      ∃ x, 0 ≤ x ∧ x ≤ g.stroke (k + i) ∧ l'[i]? = some { lock := if x = 0 then .retracted else .free, ext := x }) ∧
    ∀ (i j : Nat) (outer inner : SectionEntry), i < j → l'[i]? = some outer → l'[j]? = some inner →
      outer.fixed = false → inner.fixed = false → inner.ext < g.stroke (k + j) → outer.ext = 0

/-- The Segment Engine's step in RUN: its state by the first condition of R129 that holds, RUNNING alone acting, and the
value limited to the envelope, which is the rest value alone while the station follows (R127 to R129); outside RUN it is
EMPTY or FROZEN with the value 0 (R128, R129). -/
def Obligations.SegmentEngineSteps : Prop :=
  (∀ (inputs : AxisInputs) (s : State), s.mode = .run → s.hasAxis = true → s.muster.resetHeld = false →
    ∃ t, exec (.controlStep inputs) s = .next t ∧
      (t.mode = .run → ∀ low high : Int,
        (low, high) = (if t.envelope.followOn then (0, 0) else (t.envelope.low, t.envelope.high)) →
        t.segments.state =
          (if s.segments.pointer = none then .empty
          else if s.lockTurn.stall = true then .frozen
          else if s.isRole .rotary = true ∧ (s.ownHeldOf .lockTurn).isSome = true then .suspended
          else if low = 0 ∧ high = 0 then .waiting
          else .running) ∧
        ∀ e : SegmentEngine,
          e = (if t.segments.state = .running then ({ s.segments with state := .running } : SegmentEngine).run s.period
            else { s.segments with state := t.segments.state }) →
          { t.segments with demandTimer := none } =
            { e with value := max (1000 * low) (min (1000 * high) e.value), demandTimer := none })) ∧
  ∀ (inputs : AxisInputs) (s : State), s.mode.readsAxis = true → s.mode ≠ .run → s.hasAxis = true →
    s.muster.resetHeld = false →
    ∃ t, exec (.controlStep inputs) s = .next t ∧
      (t.mode = s.mode →
        { t.segments with demandTimer := none } =
          { s.segments with
            state := if s.segments.pointer = none then .empty else .frozen, value := 0, demandTimer := none })

/-- A RUNNING step of the Segment Engine by the segment at the run pointer: a RAMP moves by its rate and completes at
its target, a LEVEL sets its target and counts, a DWELL counts, a count of c ending with the c-th period (R130 to R133,
R135). A MARK is passed and names the segment after it; a REPEAT sends the pointer back to the mark, or at its last pass
removes its body; the segment so reached acts in the same step (R130, R134, R136). -/
def Obligations.SegmentsRun : Prop :=
  ∀ (period i : Nat) (e : SegmentEngine) (x : Segment), e.pointer = some i → e.queue[i]? = some x →
    (e.begun = true →
      (∀ target rate, x.body = .ramp target rate → ∀ v, v = moveToward e.value (1000 * target) rate →
        e.run period =
          if v = 1000 * target then ({ e with value := v } : SegmentEngine).complete i else { e with value := v }) ∧
      (∀ v count, (∃ target, x.body = .level target count ∧ v = 1000 * target) ∨ (x.body = .dwell count ∧ v = e.value) →
        (e.accumulation + 1 < period →
          e.run period = { e with value := v, accumulation := e.accumulation + 1 }) ∧
        (period ≤ e.accumulation + 1 → 1 < e.remaining →
          e.run period = { e with value := v, accumulation := 0, remaining := e.remaining - 1 }) ∧
        (period ≤ e.accumulation + 1 → e.remaining = 1 →
          e.run period = ({ e with value := v, accumulation := 0, remaining := 0 } : SegmentEngine).complete i))) ∧
    (e.begun = false →
      (∀ count, (∃ target, x.body = .level target count) ∨ x.body = .dwell count →
        e.run period =
          ({ e with begun := true, remaining := count, accumulation := 0 } : SegmentEngine).run period) ∧
      (∀ target rate, x.body = .ramp target rate →
        e.run period = ({ e with begun := true, remaining := 0, accumulation := 0 } : SegmentEngine).run period) ∧
      (x.body = .mark →
        (e.queue[i + 1]? = none → e.run period = { e with mark := some (i + 1), pointer := none }) ∧
        ∀ y, e.queue[i + 1]? = some y → y.body.timed = true →
          e.run period = ({ e with mark := some (i + 1), pointer := some (i + 1) } : SegmentEngine).run period) ∧
      ∀ base current m, x.body = .again base current → bodyMark e.queue i = some m →
        (current.getD base = 0 → ∀ q, q = e.queue.take m ++ e.queue.drop (i + 1) →
          (q[m]? = none → e.run period = { e with queue := q, mark := none, pointer := none }) ∧
          ∀ y, q[m]? = some y → y.body.timed = true →
            e.run period =
              ({ e with queue := q, mark := none, pointer := some m } : SegmentEngine).run period) ∧
        ∀ n, current.getD base = n + 1 → ∀ q p,
          q = (e.queue.mapIdx fun j y =>
            if m < j ∧ j < i then { y with completed := false }
            else if j = i then { y with body := .again base (some n) } else y) →
          p = e.mark.getD (m + 1) → ∀ y, q[p]? = some y → y.body.timed = true →
          e.run period = ({ e with queue := q, pointer := some p } : SegmentEngine).run period)

/-- The lock turn and the reverse angle in a control step at ROTARY. TURNING counts the angle within 0 to 90 degrees,
arms the torque and ends by the first test of its direction that holds; SETTLING ends FAILED_TIME at its time's end and
turns once the demand fits (the order in SETTLING is log 25); STOPPING brings the turn speed toward 0 (R145 to R149).
The reverse angle grows by reverse rotation accounted to ROTATE REVERSE or SPIN_OFF, and UNKEYED rises at the free angle
(R155, R156). -/
def Obligations.RotarySteps : Prop :=
  (∀ (inputs : AxisInputs) (s : State), s.mode = .run → s.isRole .rotary = true → s.muster.resetHeld = false →
    ∀ turn, s.lockTurn.turn = some turn →
    ∃ t, exec (.controlStep inputs) s = .next t ∧
      (t.mode = .run →
        (s.lockTurn.state = .turning → ∀ moved : Int, moved = 600 * t.axis.primary.latest.getD 0 →
          t.lockTurn.turn = some turn ∧
          (t.lockTurn.angle : Int) =
            min 90000000 (max 0 (s.lockTurn.angle + if turn.disengage then -moved else moved)) ∧
          t.lockTurn.armed =
            (s.lockTurn.armed || (t.axis.secondary.latest.map fun v => decide (v < s.image.seatTorque)).getD false) ∧
          t.lockTurn.timer = s.lockTurn.timer - 1 ∧
          ∀ spent risen late : Prop, (spent ↔ s.image.lockAngle * 1000000 ≤ t.lockTurn.angle) →
            (risen ↔ t.lockTurn.armed = true ∧
              ∃ v, t.axis.secondary.latest = some v ∧ s.image.seatTorque ≤ v) →
            (late ↔ t.lockTurn.timer = 0) →
            (¬ spent → ¬ risen → ¬ late → t.lockTurn.state = .turning) ∧
            ∀ result, (turn.disengage = false ∧
                  (spent ∧ result = .failedAngle ∨ ¬ spent ∧ risen ∧ result = .done ∨
                    ¬ spent ∧ ¬ risen ∧ late ∧ result = .failedTime)) ∨
                (turn.disengage = true ∧
                  (risen ∧ result = .failedBound ∨ ¬ risen ∧ spent ∧ result = .done ∨
                    ¬ risen ∧ ¬ spent ∧ late ∧ result = .failedTime)) →
              t.lockTurn.state = .stopping ∧ t.lockTurn.result = some result ∧ t.lockTurn.timerRunning = false ∧
              Announces (Event.of .lockTurnResult (tag := some turn.tag) (sec := some turn.sec) (code := result.code))
                s t ∧
              (result = .done → turn.disengage = false → s.lockTurn.account = .lockTurn → 1 ≤ s.image.freeAngle →
                t.lockTurn.reverseAngle = 0 ∧ t.lockTurn.unkeyed = false) ∧
              ∀ e, s.claims.find turn.tag = some e → e.isOwn s.own = true → e.releasePending = false →
                TxItem.release turn.tag result ∈ t.link.items) ∧
        (s.lockTurn.state = .settling →
          t.lockTurn.turn = some turn ∧ t.lockTurn.angle = s.lockTurn.angle ∧
          t.lockTurn.timer = s.lockTurn.timer - 1 ∧
          (t.lockTurn.timer = 0 → t.lockTurn.state = .stopping ∧ t.lockTurn.result = some .failedTime) ∧
          (t.lockTurn.timer ≠ 0 →
            t.lockTurn.state =
              if withinRange (turnEnvelope s.image turn.disengage) t.envelope.demand then .turning else .settling)) ∧
        (s.lockTurn.state = .stopping →
          t.lockTurn.turnSpeed = moveToward s.lockTurn.turnSpeed 0 s.image.withdrawRate ∧
          t.lockTurn.state = .stopping ∧ t.lockTurn.result = s.lockTurn.result ∧
          t.lockTurn.angle = s.lockTurn.angle))) ∧
  ∀ (inputs : AxisInputs) (s : State), s.mode.readsAxis = true → s.isRole .rotary = true →
    s.muster.resetHeld = false → s.lockTurn.state ≠ .turning →
    ∃ t, exec (.controlStep inputs) s = .next t ∧ t.lockTurn.account = s.lockTurn.account ∧
      (∀ moved : Int, moved = 600 * t.axis.primary.latest.getD 0 →
        t.lockTurn.reverseAngle =
          if (s.lockTurn.account = .rotateReverse ∨ s.lockTurn.account = .spinOff) ∧ moved < 0 then
            min 3600000000 (s.lockTurn.reverseAngle + moved.natAbs)
          else s.lockTurn.reverseAngle) ∧
      t.lockTurn.unkeyed =
        (s.lockTurn.unkeyed || decide (s.image.freeAngle * 1000000 ≤ t.lockTurn.reverseAngle)) ∧
      (s.lockTurn.unkeyed = false → t.lockTurn.unkeyed = true → Announces (Event.of .unkeyed (code := 0)) s t)

/-- FORCE_TRIP, an assertion of the STOP line, the expiry of the demand timer and the second tag mismatch of a peer each
trip a station in RUN or PARKED; at a HOIST what the voiding finds in the string record can send the station on to
LOCKOUT (R97, R138, R162, R163, R168 to R170; the timer and the mismatch as rows of their own, log 5). A negation of the
STOP line clears its mark, and an assertion while the mark is set changes the pin alone; before CONFIG the line is not
sampled (R169; log 23). -/
def Obligations.CausesEnterSafeDown : Prop :=
  (∀ s : State, s.mode = .run ∨ s.mode = .parked → s.isRole .hoist = false → s.link.count < 12 →
    (s.host.resetTaken = false →
      ∃ t, exec .forceTrip s = .next t ∧ CauseLeft .hostTrip s t ∧ t.peers = s.peers ∧
        t.host.reply = bare .done) ∧
    (s.trips.stopActive = false →
      ∃ t, exec .stopLineAsserted s = .next t ∧ CauseLeft .stopInput s t ∧ t.peers = s.peers ∧
        t.trips.stopActive = true ∧ t.axis.stopPin = true) ∧
    (s.segments.demandTimer.isSome = true →
      ∃ t, exec .demandTimerExpiry s = .next t ∧ CauseLeft .demandStarved s t ∧ t.peers = s.peers) ∧
    ∀ i, (s.peers.get i).admission = .fresh →
      ∃ t, exec (.divergenceCountReached i) s = .next t ∧ CauseLeft .claimDivergence s t ∧
        t.peers = s.peers.set i { s.peers.get i with divergence := 0 } ∧
        Announces (Event.of .tagsDiffer (station := some i) (value := 2)) s t) ∧
  (∀ s : State, s.mode = .run ∨ s.mode = .parked → s.isRole .hoist = true →
    (s.host.resetTaken = false →
      ∃ t, exec .forceTrip s = .next t ∧ (t.mode = .safeDown ∨ t.mode = .lockout) ∧ t.claims.table = [] ∧
        t.segments.queue = [] ∧ t.host.reply = bare .done) ∧
    (s.trips.stopActive = false →
      ∃ t, exec .stopLineAsserted s = .next t ∧ (t.mode = .safeDown ∨ t.mode = .lockout) ∧ t.claims.table = [] ∧
        t.segments.queue = [] ∧ t.trips.stopActive = true ∧ t.axis.stopPin = true) ∧
    (s.segments.demandTimer.isSome = true →
      ∃ t, exec .demandTimerExpiry s = .next t ∧ (t.mode = .safeDown ∨ t.mode = .lockout) ∧ t.claims.table = [] ∧
        t.segments.queue = [] ∧ t.segments.demandTimer = none) ∧
    ∀ i, (s.peers.get i).admission = .fresh →
      ∃ t, exec (.divergenceCountReached i) s = .next t ∧ (t.mode = .safeDown ∨ t.mode = .lockout) ∧
        t.claims.table = [] ∧ t.segments.queue = [] ∧
        t.peers = s.peers.set i { s.peers.get i with divergence := 0 } ∧
        Announces (Event.of .tagsDiffer (station := some i) (value := 2)) s t) ∧
  ∀ s : State,
    (s.mode.readsAxis = true →
      ∃ t, exec .stopLineNegated s = .next t ∧ t.trips = { s.trips with stopActive := false } ∧
        t.axis = { s.axis with stopPin := false } ∧ SameExcept [.trips, .axis] s t ∧ Ends [] [] s.host.reply s t) ∧
    (s.mode.readsAxis = true → s.trips.stopActive = true →
      ∃ t, exec .stopLineAsserted s = .next t ∧ t.axis = { s.axis with stopPin := true } ∧
        SameExcept [.axis] s t ∧ Ends [] [] s.host.reply s t) ∧
    (s.mode.readsAxis = false →
      exec .stopLineAsserted s = .next { s with axis := { s.axis with stopPin := true } } ∧
      exec .stopLineNegated s = .next { s with axis := { s.axis with stopPin := false } })

/-- A control step in SAFE_DOWN moves the demand toward 0 by one thousandth of the safe-down rate and sets the brake
exactly when it is there; the one other mode it can end in is LOCKOUT, at rest and braked (R113, R116, R165, R168). The
expiry of the safe-down limit locks the station out, at rest and braked (R167, R168); the completion of the safe-down
leads to SAFED, at rest and braked, the record kept whole (R166; as a row of its own, log 5). -/
def Obligations.SafeDownRampsTimesOutOrCompletes : Prop :=
  (∀ (inputs : AxisInputs) (s : State), s.mode = .safeDown → s.hasAxis = true → s.muster.resetHeld = false →
    ∃ t, exec (.controlStep inputs) s = .next t ∧ (t.mode = .safeDown ∨ t.mode = .lockout) ∧
      (t.mode = .safeDown →
        t.envelope.demand = moveToward s.envelope.demand 0 s.image.safeDownRate ∧
        t.axis.brakeSet = decide (t.envelope.demand = 0) ∧ (t.envelope.demand = 0 → t.axis.valve = 0)) ∧
      (t.mode = .lockout → t.envelope.demand = 0 ∧ t.axis.brakeSet = true ∧ t.axis.valve = 0)) ∧
  (∀ s : State, s.mode = .safeDown → s.trips.safeDownTimer.isSome = true →
    ∃ t, exec .safeDownTimerExpiry s = .next t ∧ t.mode = .lockout ∧ t.envelope.demand = 0 ∧
      t.axis.brakeSet = true ∧ t.axis.valve = 0 ∧ t.claims.table = [] ∧ t.segments.queue = [] ∧
      t.trips.safeDownTimer = none ∧ t.trips.restCount = 0 ∧
      t.trips.record =
        (enterTrip { origin := s.own, cause := .safeDownTimeout, isLocal := true, acked := false }
          s.trips.record).1 ∧
      (s.link.count < 11 → TxItem.trip s.own .safeDownTimeout ∈ t.link.items) ∧
      t.image = s.image ∧ t.muster = s.muster ∧ t.peers = s.peers ∧ t.stamp = s.stamp ∧ t.pending = s.pending) ∧
  ∀ s : State, s.mode = .safeDown → s.envelope.demand = 0 →
    ∃ t, exec .safeDownComplete s = .next t ∧ t.mode = .safed ∧
      t.axis = { s.axis with brakeSet := true, valve := 0 } ∧
      t.trips = { s.trips with safeDownTimer := none, restCount := 0 } ∧
      SameExcept [.mode, .axis, .trips] s t ∧ Ends [Event.of .safed] [] s.host.reply s t

/-- The beacon timer starts anew at its expiry; a beacon is due once, or BEACON_SKIPPED at a full queue without one; the
safe-down limit falls by one period (R33, R165), and reaching 0 locks out (R167). At the expiry of the STRING interval
HOIST queues a STRING frame where none of its own stands queued; the interval is measured anew from the next STRING
taken (R22; log 1). In MUSTER a MUSTER frame is queued once every period, where none stands queued (R52). The grant
window of an own PENDING entry ends in a RELEASE with TIMEOUT and CLAIM_TIMEOUT; of another entry it only ends (R87). -/
def Obligations.TimersExpire : Prop :=
  (∀ s : State, s.mode.beaconing = true → s.link.beaconTimer.isSome = true →
    ((∀ n, s.trips.safeDownTimer = some n → s.mode = .safeDown → 1 < n) →
      ∃ t, exec .beaconTimerExpiry s = .next t ∧
        t.link =
          (if s.link.holdsKind .beacon = true ∨ 12 ≤ s.link.count then { s.link with beaconTimer := some s.period }
          else ({ s.link with beaconTimer := some s.period } : LinkController).insert .beacon) ∧
        t.trips.safeDownTimer =
          (if s.mode = .safeDown then s.trips.safeDownTimer.map (· - 1) else s.trips.safeDownTimer) ∧
        { t.trips with safeDownTimer := none } = { s.trips with safeDownTimer := none } ∧
        SameExcept [.link, .trips] s t ∧
        Ends (if s.link.holdsKind .beacon = false ∧ 12 ≤ s.link.count then [Event.of .beaconSkipped] else []) []
          s.host.reply s t) ∧
    (∀ n, s.trips.safeDownTimer = some n → s.mode = .safeDown → n ≤ 1 →
      ∃ t, exec .beaconTimerExpiry s = .next t ∧ t.mode = .lockout)) ∧
  (∀ s : State, s.strings.interval.isSome = true →
    (s.strings.record.isSome = true → s.mode.beaconing = true → s.strings.queued = false → s.link.count < 12 →
      ∃ t, exec .stringIntervalExpiry s = .next t ∧
        t.strings = { s.strings with interval := none, queued := true } ∧ t.link = s.link.insert .string ∧
        SameExcept [.strings, .link] s t ∧ Ends [] [] s.host.reply s t) ∧
    (s.strings.record = none ∨ s.mode.beaconing = false ∨ s.strings.queued = true →
      ∃ t, exec .stringIntervalExpiry s = .next t ∧ t.strings = { s.strings with interval := none } ∧
        SameExcept [.strings] s t ∧ Ends [] [] s.host.reply s t)) ∧
  (∀ s : State, s.mode = .muster → s.muster.sendTimer.isSome = true →
    s.link.holdsKind .muster = true ∨ s.link.count < 12 →
    ∃ t, exec .musterSendExpiry s = .next t ∧ t.muster = { s.muster with sendTimer := some s.period } ∧
      t.link = (if s.link.holdsKind .muster = true then s.link else s.link.insert .muster) ∧
      SameExcept [.muster, .link] s t ∧ Ends [] [] s.host.reply s t) ∧
  ∀ (tag : Tag) (s : State) (e : ClaimEntry), s.claims.find tag = some e → e.isOwn s.own = true →
    e.grantWindow.isSome = true →
    (e.state = .pending → e.releasePending = false → s.canSend = true → s.link.waits (.take tag) = false →
      ∃ t, exec (.grantWindowExpiry tag) s = .next t ∧
        t.claims = { s.claims with
          table := s.claims.table.map fun x =>
            if x.tag = tag then { x with grantWindow := none, releasePending := true } else x } ∧
        t.link = s.link.insert (.release tag .timeout) ∧ SameExcept [.claims, .link] s t ∧
        Ends [Event.of .claimTimeout (tag := some tag)] [] s.host.reply s t) ∧
    (e.state ≠ .pending ∨ e.releasePending = true →
      ∃ t, exec (.grantWindowExpiry tag) s = .next t ∧
        t.claims = { s.claims with
          table := s.claims.table.map fun x => if x.tag = tag then { x with grantWindow := none } else x } ∧
        SameExcept [.claims] s t ∧ Ends [] [] s.host.reply s t)

/-- The muster window closes: a map that fails leads to MUSTER_FAULT with the queue empty; one that succeeds to SAFED
with a START entry, the peers awaited, the beacon timer running and, at HOIST, the string record present (R17, R54, R56,
R57, R61). -/
def Obligations.MusterWindowCloses : Prop :=
  ∀ s : State, s.mode = .muster → s.muster.windowTimer.isSome = true →
    (∀ code aux, s.muster.verdict = some (code, aux) →
      ∃ t, exec .musterWindowExpiry s = .next t ∧ t.mode = .musterFault ∧ t.link.queue = [] ∧
        t.muster = { s.muster with windowTimer := none, sendTimer := none } ∧
        SameExcept [.mode, .muster, .link] s t ∧
        Ends [Event.of .musterFault (code := code) (aux := aux)] [] s.host.reply s t) ∧
    (s.muster.verdict = none → s.link.count ≤ 9 →
      ∃ t, exec .musterWindowExpiry s = .next t ∧ t.mode = .safed ∧
        t.muster = { s.muster with windowTimer := none, sendTimer := none } ∧
        t.trips.record =
          (enterTrip { origin := s.own, cause := .start, isLocal := true, acked := false } s.trips.record).1 ∧
        t.envelope.demand = 0 ∧ t.axis.brakeSet = true ∧ t.axis.valve = 0 ∧
        (∀ i, i ≠ s.own → (Role.ofCode (s.muster.map.get i)).isSome = true →
          (t.peers.get i).admission = .awaiting ∧ (t.peers.get i).role = s.muster.map.get i) ∧
        t.link.beaconTimer = some s.period ∧ TxItem.beacon ∈ t.link.items ∧
        (s.isRole .hoist = true → t.strings.record = some (StringRecord.initial s.image)) ∧
        Announces (Event.of .musterClosed) s t ∧ t.image = s.image ∧ t.claims = s.claims)

/-- A silence of three of the station's periods makes a FRESH entry STALE: HOIST's record becomes UNCERTAIN and its path
BROKEN where the entry is CROWD's; another role's copy loses its refreshed mark where it is HOIST's; a crowd force
permit that rested on it drops the crowd, with ROTARY_NOT_FRESH or COPY_INVALID (R12, R25, R68, R110). One of eight
makes an AWAITING, STALE or FOREIGN entry LOST, and trips a station in RUN or PARKED that shares a live claim with it
(R68, R96; log 1). -/
def Obligations.SilenceDemotesAPeer : Prop :=
  ∀ (i : Station) (s : State), s.mode.beaconing = true →
    ((s.peers.get i).admission = .fresh →
      ∃ t, exec (.silence3P i) s = .next t ∧
        t.peers = s.peers.set i { s.peers.get i with
          admission := .stale, silence := max (s.peers.get i).silence (3 * s.period) } ∧
        (s.isRole .hoist = false → SameExcept [.peers, .strings, .envelope] s t) ∧
        (s.isRole .hoist = true → s.stationOf .crowd ≠ some i → SameExcept [.peers] s t) ∧
        (s.isRole .hoist = true → s.stationOf .crowd = some i → ∀ r, s.strings.record = some r → r.certain = true →
          s.link.count < 12 ∨ s.strings.queued = true →
          t.strings.record =
            some { r with certain := false, loadComplete := false, generation := r.generation + 1 } ∧
          Announces (Event.of .stringChange (value := (r.generation + 1).toNat)) s t) ∧
        (s.isRole .hoist = false → s.stationOf .hoist = some i →
          t.strings = { s.strings with refreshed := false } ∧
          (s.copyValid = true → Announces (Event.of .copyInvalid) s t)) ∧
        (s.isRole .hoist = false → s.stationOf .hoist ≠ some i → t.strings = s.strings) ∧
        (s.crowdPermit = true → s.stationOf .hoist = some i ∨ s.stationOf .rotary = some i →
          t.envelope = { s.envelope with dropLatch := true, demand := min 0 s.envelope.demand } ∧
          Announces (Event.of .crowdDrop (code := if s.stationOf .rotary = some i then 0 else 1)) s t) ∧
        (s.crowdPermit = false ∨ (s.stationOf .hoist ≠ some i ∧ s.stationOf .rotary ≠ some i) →
          t.envelope = s.envelope) ∧
        Announces (Event.of .peerState (station := some i) (code := Admission.stale.code)) s t) ∧
    ((s.peers.get i).admission ∈ [Admission.awaiting, .stale, .foreign] →
      ((s.claims.table.any fun e => e.isParty s.own && e.isParty i) = false ∨ (s.mode ≠ .run ∧ s.mode ≠ .parked) →
        ∃ t, exec (.silence8P i) s = .next t ∧
          t.peers = s.peers.set i { s.peers.get i with
            admission := .lost, silence := max (s.peers.get i).silence (8 * s.period), unadmitted := false } ∧
          SameExcept [.peers] s t ∧
          Ends [Event.of .peerState (station := some i) (code := Admission.lost.code)] [] s.host.reply s t) ∧
      ((s.claims.table.any fun e => e.isParty s.own && e.isParty i) = true → s.mode = .run ∨ s.mode = .parked →
        ∃ t, exec (.silence8P i) s = .next t ∧ (t.peers.get i).admission = .lost ∧ t.claims.table = [] ∧
          t.mode ∈ [Mode.safed, .safeDown, .lockout]))

/-- The counts that run out, as rows of their own (log 5). STALL sets at ROTARY under an own HELD ROTATE FORWARD, with
its event (R153). A lock turn whose time runs out before its tests decide ends FAILED_TIME: the unit stops, and the
claim is released with that result (R146 to R149). The begun LEVEL or DWELL of a RUNNING engine completes, whatever
count remains: outside a body it leaves the queue, inside one it stays, completed; the run pointer names the segment
after it (R135, R137). -/
def Obligations.CountsRunOut : Prop :=
  (∀ (s : State) (e : ClaimEntry), (Work.begin s).heldForward = some e → s.isRole .rotary = true →
    s.lockTurn.stall = false →
    ∃ t, exec .stallCountReached s = .next t ∧
      t.lockTurn = { s.lockTurn with stallCount := s.image.stallPeriods, stall := true } ∧
      SameExcept [.lockTurn] s t ∧ Ends [Event.of .stall (tag := some e.tag)] [] s.host.reply s t) ∧
  (∀ s : State, s.lockTurn.state = .settling ∨ s.lockTurn.state = .turning → ∀ turn : Turn,
    s.lockTurn.turn = some turn → ∀ e : ClaimEntry, s.claims.find turn.tag = some e → e.isOwn s.own = true →
    e.releasePending = false → s.canSend = true → s.link.waits (.take turn.tag) = false →
    ∃ t, exec .lockTurnTimerExpiry s = .next t ∧
      t.lockTurn = { s.lockTurn with
        timer := 0, timerRunning := false, state := .stopping, result := some .failedTime } ∧
      t.claims = { s.claims with
        table := s.claims.table.map fun x => if x.tag = turn.tag then { x with releasePending := true } else x } ∧
      t.link = s.link.insert (.release turn.tag .failedTime) ∧ SameExcept [.lockTurn, .claims, .link] s t ∧
      Ends [Event.of .lockTurnResult (tag := some turn.tag) (sec := some turn.sec)
        (code := ReleaseResult.failedTime.code)] [] s.host.reply s t) ∧
  ∀ (s : State) (i : Nat), s.segments.pointer = some i → ∀ x : Segment, s.segments.queue[i]? = some x →
    (∃ target count, x.body = .level target count) ∨ (∃ count, x.body = .dwell count) →
    s.segments.begun = true → s.segments.state = .running →
    ∃ t, exec .segmentCountExpiry s = .next t ∧ t.segments.begun = false ∧ t.segments.value = s.segments.value ∧
      (bodyMark s.segments.queue i = none →
        t.segments.queue = s.segments.queue.eraseIdx i ∧
        t.segments.pointer = (if i + 1 < s.segments.queue.length then some i else none)) ∧
      (bodyMark s.segments.queue i ≠ none →
        t.segments.queue = s.segments.queue.set i { x with completed := true } ∧
        t.segments.pointer = (if i + 1 < s.segments.queue.length then some (i + 1) else none)) ∧
      SameExcept [.segments] s t ∧ Ends [] [] s.host.reply s t

/-! ### The link -/

/-- The contender with the least arbitration field is still driving at the field's end, whatever the others drive (R27).
A station that contends and wins transmits its head frame, filled at that moment, and the frame keeps its place in the
queue; the echo has a fault where a bit is read other than driven (R34, R37). One that loses to a rival, or reads
dominant a bit of its field that it drove recessive, or has nothing it may send, is unchanged (R27, R31, R37, R42; the
form in which the line's bits come is log 38). -/
def Obligations.ContendSendsTheHead : Prop :=
  (∀ (own : BitVec 7) (rivals : List (BitVec 7)), winsArbitration own rivals = true ↔ ∀ r ∈ rivals, own ≤ r) ∧
  ∀ (line : LineReading) (s : State),
    (∀ i, s.link.items.head? = some i → ∀ driven, driven = (s.fill i).bits s.own → ∀ lostBit : Prop,
      (lostBit ↔ ∃ n, n < 7 ∧ driven[n]? = some true ∧ line.flips[n]? = some true) →
      (s.mode.transmits = true → s.host.resetTaken = false → s.link.isSending = false →
        (∀ r ∈ line.rivals, arbitrationField i.kind s.own ≤ r) → ¬ lostBit → ∀ fault : Bool,
        (fault = true ↔ ∃ n, n < driven.length ∧ line.flips[n]? = some true) →
        ∃ t, exec (.contendForLink line) s = .next t ∧ t.link.items = s.link.items ∧
          t.link.slot =
            some { item := i, sending := some { frame := s.fill i, fate := .judged, echoFault := fault } } ∧
          t.link.attempts = s.link.attempts ∧ t.link.beaconSeq = s.link.beaconSeq ∧
          t.link.beaconTimer = s.link.beaconTimer ∧ SameExcept [.link] s t ∧ Ends [] [] s.host.reply s t) ∧
      ((∃ r ∈ line.rivals, r < arbitrationField i.kind s.own) ∨ lostBit →
        exec (.contendForLink line) s = .next s)) ∧
    (s.link.items = [] ∨ s.mode.transmits = false ∨ s.link.isSending = true →
      exec (.contendForLink line) s = .next s)

/-- What a frame carries when it wins (R34). A beacon carries the axis state record of R35: the straps, the mode, the
sequence, the latest readings with 0 for a measure the role has not, the outputs and flags, the map, the generation held
and the live tags. A STRING carries the record (R23), a MUSTER the map and the fault flag (R52), and every other kind
what it was queued with. Stated for readings that were taken; AT_REST is clear on one never taken (log 7). -/
def Obligations.FramesAreFilled : Prop :=
  ∀ s : State,
    (∃ b, s.fill .beacon = .beacon b ∧ b.role.toNat = s.muster.straps.role.toNat ∧ b.mode.toNat = s.mode.code ∧
      b.seq = s.link.beaconSeq ∧ b.output = s.axis.valve ∧ b.map = s.muster.map ∧
      b.tags = s.claims.table.map (·.tag) ∧
      (∀ v, s.axis.primary.latest = some v → b.primary = if s.hasAxis then v else 0) ∧
      (∀ v, s.axis.secondary.latest = some v →
        b.secondary = if s.hasAxis && !s.isRole .crowd then v else 0) ∧
      (∀ v, s.axis.position.latest = some v → s.isRole .rotary = false → b.position = if s.hasAxis then v else 0) ∧
      (s.isRole .rotary = true → b.position = ((s.lockTurn.reverseAngle / 1000000 : Nat) : Int)) ∧
      (s.hasAxis = false → b.primary = 0 ∧ b.secondary = 0 ∧ b.position = 0) ∧
      (s.isRole .crowd = true → b.secondary = 0) ∧
      (b.atRest = true ↔ s.isRole .panel = true ∨
        ∃ v, s.axis.primary.latest = some v ∧ -s.image.restBand ≤ v ∧ v ≤ s.image.restBand) ∧
      (b.stall = true ↔ s.isRole .rotary = true ∧ s.lockTurn.stall = true) ∧
      (b.unkeyed = true ↔ s.isRole .rotary = true ∧ s.lockTurn.unkeyed = true) ∧
      b.clearRefused = s.trips.clearRefused ∧ b.gated = s.trips.gated ∧
      b.generation =
        if s.isRole .hoist then s.strings.record.map (·.generation)
        else if s.copyValid then s.strings.copy.map (·.generation)
        else none) ∧
    (∀ r, s.strings.record = some r → ∃ g, s.fill .string = .string g ∧ g.generation = r.generation ∧
      g.count = r.count ∧ g.total = r.total.toNat ∧ g.slack = min r.slack.toNat 65535 ∧
      g.loadComplete = r.loadComplete ∧ g.certain = r.certain ∧ g.depth = r.depth ∧
      g.sections.length = r.sections.length ∧
      ∀ (i : Nat) (e : SectionEntry), r.sections[i]? = some e → ∃ x, g.sections[i]? = some x ∧
        x.lock.toNat = e.lock.code ∧ x.ext = e.ext.toNat ∧ ∀ p, e.lock = .seated p → x.pocket.toNat = p.val) ∧
    (∃ role fault, s.fill .muster = .muster role s.muster.map fault ∧ role.toNat = s.muster.straps.role.toNat ∧
      (fault = true ↔ s.muster.dupRoles ≠ 0 ∨ s.muster.conflict = true ∨ s.muster.peerFault = true)) ∧
    (∀ origin cause, s.fill (.trip origin cause) = .trip origin cause) ∧ s.fill .clear = .clear ∧
    (∀ mask, s.fill (.park mask) = .park mask) ∧
    ∀ tag : Tag, s.fill (.grant tag) = .grant tag ∧ s.fill (.take tag) = .take tag ∧
      (∀ result, s.fill (.release tag result) = .release tag result) ∧
      (∀ reason, s.fill (.refuse tag reason) = .refuse tag reason ∧ s.fill (.revoke tag reason) = .revoke tag reason) ∧
      ∀ kind : ClaimKind, ∃ cls, s.fill (.claim tag kind) = .claim tag cls kind.params ∧ cls.toNat = kind.cls.code

/-- A frame taken, no fault found in its echo, leaves the queue and the attempt count returns to 0. PARK and MUSTER do
no more at their own station; a STRING starts the interval anew and fixes the reference total; a TRIP voids the table; a
beacon advances the beacon sequence, counts rest in SAFE_DOWN, the second rest beacon in a row completing it, and stall
at a ROTARY turning forward (R22, R36 to R38, R95, R152, R153, R166). What the other kinds do is stated with the frames
of peers, whose delivery they share. -/
def Obligations.FrameTakenLeavesTheQueue : Prop :=
  ∀ (s : State) (i : TxItem) (x : Sending), s.link.slot = some { item := i, sending := some x } →
    x.fate ≠ .unjudged → x.echoFault = false → s.host.resetTaken = false → ∀ l : LinkController,
    l = { s.link with slot := none, attempts := 0 } →
    ((∃ m, x.frame = .park m) ∨ (∃ r m b, x.frame = .muster r m b) →
      ∃ t, exec .frameTaken s = .next t ∧ t.link = l ∧ SameExcept [.link] s t ∧ Ends [] [] s.host.reply s t) ∧
    (∀ g, x.frame = .string g →
      ∃ t, exec .frameTaken s = .next t ∧ t.link = l ∧
        t.strings = { s.strings with
          refTotal := some (g.total : Int), interval := some (8 * s.period), queued := false } ∧
        SameExcept [.link, .strings] s t ∧ Ends [] [] s.host.reply s t) ∧
    (∀ origin cause, x.frame = .trip origin cause →
      ∃ t, exec .frameTaken s = .next t ∧ t.claims.table = [] ∧
        (s.claims.table ≠ [] → Announces (Event.of .claimVoided (value := s.claims.table.length)) s t) ∧
        (s.isRole .hoist = false →
          t.link = l.remove TxItem.isClaimFrame ∧
          SameExcept [.claims, .link, .lockTurn, .segments, .envelope] s t) ∧
        (s.isRole .hoist = true →
          SameExcept [.mode, .claims, .segments, .lockTurn, .trips, .link, .envelope, .axis, .strings] s t)) ∧
    ∀ b, x.frame = .beacon b →
      ∃ t, exec .frameTaken s = .next t ∧ t.link = { l with beaconSeq := s.link.beaconSeq + 1 } ∧
        (s.isRole .rotary = false ∨ s.lockTurn.stall = true ∨ (Work.begin s).heldForward = none →
          t.lockTurn = s.lockTurn) ∧
        (∀ e, (Work.begin s).heldForward = some e → s.isRole .rotary = true → s.lockTurn.stall = false →
          t.lockTurn =
            (if b.secondary < s.image.stallTorque then { s.lockTurn with stallCount := 0 }
            else if s.lockTurn.stallCount + 1 < s.image.stallPeriods then
              { s.lockTurn with stallCount := s.lockTurn.stallCount + 1 }
            else { s.lockTurn with stallCount := s.lockTurn.stallCount + 1, stall := true }) ∧
          (t.lockTurn.stall = true → Announces (Event.of .stall (tag := some e.tag)) s t)) ∧
        (s.mode ≠ .safeDown → SameExcept [.link, .lockTurn] s t) ∧
        (s.mode = .safeDown →
          (b.atRest = false ∨ s.envelope.demand ≠ 0 →
            t.trips = { s.trips with restCount := 0 } ∧ SameExcept [.link, .lockTurn, .trips] s t) ∧
          (b.atRest = true → s.envelope.demand = 0 → s.trips.restCount = 0 →
            t.trips = { s.trips with restCount := 1 } ∧ SameExcept [.link, .lockTurn, .trips] s t) ∧
          (b.atRest = true → s.envelope.demand = 0 → 1 ≤ s.trips.restCount →
            t.mode = .safed ∧ t.trips = { s.trips with restCount := 0, safeDownTimer := none } ∧
            t.axis = { s.axis with brakeSet := true, valve := 0 } ∧ Announces (Event.of .safed) s t ∧
            SameExcept [.link, .lockTurn, .mode, .trips, .axis] s t))

/-- The own TAKE taken makes the GRANTED entry HELD; under a LOCK_TURN at ROTARY a lock turn begins, SETTLING unless the
demand already lies within the turn's envelope (R88, R108, R146, R155). Stated in states whose live claims are
compatible, which every step keeps. -/
def Obligations.OwnTakeBeginsTheLockTurn : Prop :=
  ∀ (s : State) (tag : Tag) (l : LinkController) (c : Instr), Delivery c s.own (.take tag) l s → ClaimSound s →
    s.isRole .rotary = true →
    ∀ e : ClaimEntry, s.claims.find tag = some e → e.isOwn s.own = true →
    e.state = .granted → ∀ sec disengage, e.kind = .lockTurn sec disengage →
    ∃ t, exec c s = .next t ∧
      t.claims = { s.claims with
        table := s.claims.table.map fun x =>
          if x.tag = e.tag then { x with takeQueued := false, state := .held } else x } ∧
      t.lockTurn = { s.lockTurn with
        state := if withinRange (turnEnvelope s.image disengage) s.envelope.demand then .turning else .settling
        turn := some { tag := e.tag, sec := sec, disengage := disengage }
        angle := 0, armed := false, timer := s.image.lockTurnTime, timerRunning := true
        turnSpeed := if disengage then -(1000 * s.image.lockSpeed) else 1000 * s.image.lockSpeed
        result := none, account := .lockTurn } ∧
      t.link = l ∧ SameExcept [.claims, .lockTurn, .link] s t ∧
      Announces (Event.of .lockTurnBegun (tag := some e.tag) (sec := some sec) (code := bit disengage)) s t

/-- The echo's end judges the attempt: with no fault found the frame is taken and no attempt fails, with one it fails
and no frame is taken (R37 to R39; the row that does not fit the echo is log 6). A failed attempt leaves its frame in
the queue for the first two times; at the third the frame is given up, the attempt count returns to 0, and the
LINK_FAULT raised takes a station out of RUN and PARKED (R39, R162). A frame to be removed where it fails is removed
(R40, R41; an own CLAIM is withdrawn so, log 20; its event's codes are log 27). A frame that is not judged ends with
either row (log 38). -/
def Obligations.EchoJudgesTheAttempt : Prop :=
  ∀ (s : State) (i : TxItem) (x : Sending), s.link.slot = some { item := i, sending := some x } →
    s.host.resetTaken = false →
    (x.fate ≠ .unjudged →
      (x.echoFault = true → exec .frameTaken s = .next s) ∧
      (x.echoFault = false → exec .attemptFailed s = .next s ∧
        ∃ t, exec .frameTaken s = .next t ∧ t.link.isSending = false ∧ t.link.attempts = 0)) ∧
    (x.fate = .judged → x.echoFault = true →
      (s.link.attempts < 2 →
        ∃ t, exec .attemptFailed s = .next t ∧
          t.link = { s.link with
            slot := some { item := i, sending := none }, attempts := s.link.attempts + 1 } ∧
          SameExcept [.link] s t ∧ Ends [] [] s.host.reply s t) ∧
      (2 ≤ s.link.attempts →
        ∃ t, exec .attemptFailed s = .next t ∧ t.link.slot = none ∧ t.link.attempts = 0 ∧ t.mode ≠ .run ∧
          t.mode ≠ .parked ∧ (s.mode ∉ [Mode.run, .parked, .safeDown] → t.mode = s.mode) ∧
          (s.mode ≠ .start → s.mode ≠ .strapFault → ∃ aux value,
            Announces (Event.of .trip (station := some s.own) (code := 5) (aux := aux) (value := value)) s t) ∧
          ∀ tag kind, i = .claim tag kind → Announces (Event.of .claimWithdrawn (tag := some tag) (code := 1)) s t)) ∧
    (x.fate = .removedIfFailed → x.echoFault = true →
      ∃ t, exec .attemptFailed s = .next t ∧ t.link = { s.link with slot := none, attempts := 0 } ∧
        SameExcept [.link] s t ∧
        Ends (match i with
          | .claim tag _ => [Event.of .claimWithdrawn (tag := some tag)]
          | _ => []) [] s.host.reply s t) ∧
    (x.fate = .unjudged → ∀ c, c = .frameTaken ∨ c = .attemptFailed →
      ∃ t, exec c s = .next t ∧ t.link = { s.link with slot := none, attempts := 0 } ∧ SameExcept [.link] s t ∧
        Ends [] [] s.host.reply s t)

/-- Every well-formed frame of every station, written as the bits of R190 with its CRC, is read back by the checks of
R28 as that frame, with every field at every value its layout admits. -/
def Obligations.FrameBitsReadBack : Prop :=
  ∀ (sender : Station) (f : Frame), f.wf = true → receive (f.bits sender) = .good sender f

/-- A frame that carries the station's own number is not delivered: SELF_HEARD is posted with the frame's kind, and
nothing else changes (R29). -/
def Obligations.OwnNumberIsNotDelivered : Prop :=
  ∀ (c : Instr) (s : State) (sender : Station) (f : Frame), frameOfCommand c = some (sender, f) → f.wf = true →
    s.mode.receives = true → s.link.isSending = false → sender = s.own →
    ∃ t, exec c s = .next t ∧ SameExcept [] s t ∧
      Ends [Event.of .selfHeard (code := f.kind.code)] [] s.host.reply s t

/-- Received frames outside the beaconing modes: START, STRAP_FAULT and MUSTER_FAULT hear none; CONFIG ignores every
peer's frame; MUSTER takes MUSTER frames and beacons alone (R42, R49, R52; a STRING at a HOIST is log 47). None is heard
while a frame of the station's own is in transmission (R34; log 6). Bits that fail the checks of R28 post LINK_RX_ERROR
with how they failed, in the modes that receive; nothing else changes (R28, R42). -/
def Obligations.FramesThatAreNotDelivered : Prop :=
  (∀ (c : Instr) (s : State) (sender : Station) (f : Frame), frameOfCommand c = some (sender, f) →
    (s.mode = .start ∨ s.mode = .strapFault ∨ s.mode = .musterFault ∨ s.link.isSending = true →
      exec c s = .next s) ∧
    (s.mode = .config ∨ (s.mode = .muster ∧ f.kind ≠ .muster ∧ f.kind ≠ .beacon) → s.link.isSending = false →
      f.wf = true → sender ≠ s.own →
      ∃ t, exec c s = .next t ∧ SameExcept [] s t ∧ Ends [] [] s.host.reply s t)) ∧
  ∀ (bits : List Bool) (s : State) (why : RxFault), receive bits = .bad why →
    (s.mode.receives = true → s.link.isSending = false →
      ∃ t, exec (.linkRxError bits) s = .next t ∧ SameExcept [] s t ∧
        Ends [Event.of .linkRxError (code := why.code)] [] s.host.reply s t) ∧
    (s.mode.receives = false ∨ s.link.isSending = true → exec (.linkRxError bits) s = .next s)

/-! ### The frames of peers, and the own ones taken -/

/-- A peer's TRIP voids the table in every beaconing mode; in RUN and PARKED it is recorded and sends the station to
SAFE_DOWN (PANEL: SAFED) with no TRIP queued, in SAFED and SAFE_DOWN it is recorded, in LOCKOUT posted only; the event
TRIP carries the origin, the cause, the disposition and the mode after (R95, R161, R163, R164; its fields are log 11, a
duplicate at a full record log 42). At HOIST the section of a HELD LOCK_TURN becomes DOUBTFUL, and with none HELD the
record stays (R20). -/
def Obligations.PeerTripVoidsTheTable : Prop :=
  ∀ (sender origin : Station) (cause : Cause) (s : State), s.hears sender → cause ≠ .start →
    ∀ told : Event,
      told = Event.of .trip (station := some origin) (code := cause.code)
        (aux := if s.mode = .lockout then Disposition.notRecorded.code
          else (enterTrip { origin := origin, cause := cause, isLocal := false, acked := false }
            s.trips.record).2.code)
        (value := Mode.code (if s.mode = .run ∨ s.mode = .parked then
          (if s.isRole .panel then .safed else .safeDown) else s.mode)) →
    (s.isRole .hoist = false →
      ∃ t, exec (.tripFrame sender origin cause) s = .next t ∧ t.claims.table = [] ∧ Announces told s t ∧
        t.link = s.link.remove TxItem.isClaimFrame ∧
        (s.mode = .run ∨ s.mode = .parked →
          t.mode = (if s.isRole .panel then .safed else .safeDown) ∧ t.segments.queue = [] ∧
          t.trips.ownParkMask = none ∧ t.trips.restCount = 0 ∧
          t.trips.safeDownTimer = (if s.isRole .panel then none else some s.image.safeDownLimit)) ∧
        (s.mode ≠ .run → s.mode ≠ .parked → t.mode = s.mode) ∧
        t.trips.record =
          (if s.mode = .lockout then s.trips.record
          else (enterTrip { origin := origin, cause := cause, isLocal := false, acked := false } s.trips.record).1) ∧
        SameExcept [.mode, .claims, .segments, .lockTurn, .trips, .link, .envelope, .axis] s t) ∧
    (s.isRole .hoist = true →
      ∃ t, exec (.tripFrame sender origin cause) s = .next t ∧ t.claims.table = [] ∧ Announces told s t ∧
        t.mode ≠ .run ∧ t.mode ≠ .parked ∧ (s.mode = .safed → t.mode = .safed) ∧
        ((∀ e ∈ s.claims.table, e.state = .held → e.kind.cls ≠ .lockTurn) → t.strings = s.strings ∧
          (s.mode = .run ∨ s.mode = .parked → t.mode = .safeDown)) ∧
        (ClaimSound s → ∀ e ∈ s.claims.table, e.state = .held → ∀ k disengage, e.kind = .lockTurn k disengage →
          ∀ r x, s.strings.record = some r → r.sectionAt k = some x →
          ∃ r', t.strings.record = some r' ∧ r'.sectionAt k = some { x with lock := .doubtful }) ∧
        SameExcept [.mode, .claims, .segments, .lockTurn, .trips, .link, .envelope, .axis, .strings] s t)

/-- A CLEAR from PANEL, PANEL's own when taken among them, readmits the LOST peers, which leave every match set, and in
SAFED sets the station to RUN with an empty record unless a local condition refuses it, which the clear-refused state
then shows: the first that holds of UNACKNOWLEDGED, STOP_LINE, SENSOR, LIMIT and, at HOIST, SLACK and MISMATCH; a CLEAR
of another station is stray (R38, R69, R171 to R173). -/
def Obligations.ClearFromPanelIsJudged : Prop :=
  (∀ s : State, s.clearRefusal =
    if ∃ e ∈ s.trips.record, e.isLocal = true ∧ e.cause ≠ .start ∧ e.acked = false then some 0
    else if s.trips.stopActive = true then some 1
    else if s.axis.primary.outOfRange = true ∨ s.axis.secondary.outOfRange = true ∨
      s.axis.position.outOfRange = true then some 2
    else if s.axis.limitMark = true then some 3
    else if s.isRole .hoist = true ∧ s.strings.slackOver = true then some 4
    else if s.isRole .hoist = true ∧ s.strings.mismatch = true then some 5
    else none) ∧
  ∀ (c : Instr) (sender : Station) (l : LinkController) (s : State), Delivery c sender .clear l s →
    (s.muster.map.get sender = Role.panel.code →
      ∃ t, exec c s = .next t ∧ t.link = l ∧
        t.peers = s.peers.map (fun p => if p.admission = .lost then p.readmitted else p) ∧
        t.mode = (if s.mode = .safed ∧ s.clearRefusal = none then .run else s.mode) ∧
        t.trips.record = (if s.mode = .safed ∧ s.clearRefusal = none then [] else s.trips.record) ∧
        t.trips.clearRefused = (decide (s.mode = .safed) && s.clearRefusal.isSome) ∧
        (∀ i j, inMask (t.trips.matchSets.get i) j =
          (inMask (s.trips.matchSets.get i) j && decide ((s.peers.get j).admission ≠ .lost))) ∧
        (s.mode = .safed → s.clearRefusal = none → Announces (Event.of .cleared) s t) ∧
        (s.mode = .safed → ∀ code, s.clearRefusal = some code →
          Announces (Event.of .clearRefused (code := code)) s t) ∧
        SameExcept [.mode, .peers, .trips, .link] s t) ∧
    (s.muster.map.get sender ≠ Role.panel.code →
      ∃ t, exec c s = .next t ∧ t.link = l ∧ SameExcept [.link] s t ∧
        Ends [Event.of .strayFrame (station := some sender) (code := FrameKind.clear.code)] [] s.host.reply s t)

/-- A CLAIM that is admitted, a peer's or the own one taken, appends a PENDING entry with its class's consent set, an
own one with its grant window and CLAIM_ADMITTED; a member answers it GRANT, with its consent applied, or REFUSE with
the reason of R83 (R38, R80, R82 to R84; the event's fields are log 27). -/
def Obligations.ClaimIsAdmittedAndAnswered : Prop :=
  ∀ (c : Instr) (sender : Station) (tag : Tag) (cls : Byte) (params : Word16) (l : LinkController) (kind : ClaimKind)
    (s : State), Delivery c sender (.claim tag cls params) l s →
    (sender ≠ s.own → (s.peers.get sender).admission.member = true) → s.claims.find tag = none →
    ClaimKind.parse cls params = some kind → s.muster.map.get sender = kind.cls.originator.code →
    (∀ e ∈ s.claims.table, compatible e.kind kind = true) →
    ∀ entry : ClaimEntry,
      entry =
        { tag := tag, kind := kind, consentSet := consentSetOf s.muster.map kind.cls, grants := 0, state := .pending
          consent := false, revokeQueued := false
          grantWindow := if tag.station = s.own then some (4 * s.period) else none
          releasePending := false, takeQueued := false } →
      (inMask entry.consentSet s.own = false →
        ∃ t, exec c s = .next t ∧ t.claims = { s.claims with table := s.claims.table ++ [entry] } ∧ t.link = l ∧
          SameExcept [.claims, .link] s t ∧
          (tag.station = s.own → Announces (Event.of .claimAdmitted (tag := some tag)) s t)) ∧
      (inMask entry.consentSet s.own = true → l.count < 12 → (Work.begin s).answer kind = none →
        ∃ t, exec c s = .next t ∧
          t.claims = { s.claims with table := s.claims.table ++ [{ entry with consent := true }] } ∧
          t.link = l.insert (.grant tag) ∧ SameExcept [.claims, .link] s t ∧
          (tag.station = s.own → Announces (Event.of .claimAdmitted (tag := some tag)) s t)) ∧
      ∀ reason, inMask entry.consentSet s.own = true → l.count < 12 → (Work.begin s).answer kind = some reason →
        ∃ t, exec c s = .next t ∧
          t.claims = { s.claims with table := s.claims.table ++ [entry] } ∧
          t.link = l.insert (.refuse tag reason) ∧ SameExcept [.claims, .link] s t ∧
          Announces (Event.of .consentRefused (tag := some tag) (code := reason.code)) s t ∧
          (tag.station = s.own → Announces (Event.of .claimAdmitted (tag := some tag)) s t)

/-- A member's answer by the table of R83, its first condition that holds deciding, and the grant conditions of R100 and
R101 for each consenter and class. A reading never taken, or one whose out-of-range mark is set, meets no condition (log
7), and a class the role does not consent to has none (log 29). -/
def Obligations.AnswersFollowTheirConditions : Prop :=
  (∀ (s : State) (kind : ClaimKind),
    (Work.begin s).answer kind =
      if s.mode = .lockout then some .lockout
      else if s.mode = .safed ∨ s.mode = .safeDown then some .notRun
      else if s.mode = .parked ∧ ∀ mask, s.trips.ownParkMask = some mask → inClassMask mask kind.cls = false then
        some .parked
      else if s.trips.gated = true then some .gated
      else if s.grantCondition kind = true then none
      else some .condition) ∧
  ∀ (s : State) (kind : ClaimKind) (nearZero : Int → Prop) (atLeast : Int → Prop),
    (∀ bound, nearZero bound ↔ ∃ v, s.axis.primary.latest = some v ∧ s.axis.primary.outOfRange = false ∧
      -bound ≤ v ∧ v ≤ bound) →
    (∀ bound, atLeast bound ↔ ∃ v, s.axis.primary.latest = some v ∧ s.axis.primary.outOfRange = false ∧ bound ≤ v) →
    (s.grantCondition kind = true ↔
      match s.role, kind with
      | some .hoist, .rotate _ => ∃ r, s.strings.record = some r ∧ r.certain = true ∧
          (s.envelope.demand = 0 ∨ s.envelope.followOn = true)
      | some .hoist, .lockTurn k disengage => ∃ r e, s.strings.record = some r ∧ 2 ≤ k ∧
          r.sections[k - 2]? = some e ∧ r.certain = true ∧
          (∃ tension, s.axis.secondary.latest = some tension ∧ s.axis.secondary.outOfRange = false ∧
            s.image.hangThreshold ≤ tension) ∧
          (disengage = false → (e.lock = .free ∨ e.lock = .doubtful) ∧
            ∃ i, i < s.image.pocketCount k ∧ s.image.pocket k i - e.ext ≤ s.image.window ∧
              e.ext - s.image.pocket k i ≤ s.image.window) ∧
          (disengage = true → e.lock = .doubtful ∨ ∃ p, e.lock = .seated p)
      | some .hoist, .crowdLoad _ => ∃ r, s.strings.record = some r ∧ r.loadComplete = true
      | some .hoist, .spinOff => ∃ r, s.strings.record = some r ∧ r.certain = true ∧
          r.depth ≤ s.image.surfaceMark
      | some .hoist, .casingTurn => True
      | some .crowd, .lockTurn _ _ | some .crowd, .stringMove _ => nearZero s.image.slackForce
      | some .rotary, .crowdLoad _ => atLeast (-s.image.creepRotary)
      | some .rotary, .stringMove _ => nearZero s.image.creepRotary
      | some .casing, .stringMove _ | some .casing, .spinOff => nearZero s.image.restBand
      | some .panel, _ => inClassMask s.envelope.enableSet kind.cls = true ∧ s.envelope.deadManHeld = true
      | _, _ => False)

/-- A CLAIM that is not admitted changes no entry: of a class, parameter or originator that does not fit, or in conflict
with a live entry, it is answered REFUSE by each member of its consent set, and where it is the station's own
CLAIM_REFUSED is posted; of an unknown class code nobody answers it (R38, R80, R81; unused parameter bits and a
direction byte above 1 are log 15). A REFUSE that finds the queue full raises LINK_JAM (R32). Of a tag already live it
does nothing; of a peer that is not judged it is ignored. -/
def Obligations.ClaimIsNotAdmitted : Prop :=
  ∀ (c : Instr) (sender : Station) (tag : Tag) (cls : Byte) (params : Word16) (l : LinkController) (s : State),
    Delivery c sender (.claim tag cls params) l s →
    (sender ≠ s.own → (s.peers.get sender).admission.member = false →
      ∃ t, exec c s = .next t ∧ SameExcept [] s t ∧
        Ends [Event.of .frameIgnored (station := some sender) (tag := some tag) (code := FrameKind.claim.code)
          (aux := (s.peers.get sender).admission.code)] [] s.host.reply s t) ∧
    (sender = s.own ∨ (s.peers.get sender).admission.member = true → (s.claims.find tag).isSome = true →
      ∃ t, exec c s = .next t ∧ t.link = l ∧ SameExcept [.link] s t ∧ Ends [] [] s.host.reply s t) ∧
    (sender = s.own ∨ (s.peers.get sender).admission.member = true → s.claims.find tag = none →
      MotionClass.ofCode cls = none →
      ∃ t, exec c s = .next t ∧ t.link = l ∧ SameExcept [.link] s t ∧
        Ends (if sender = s.own then
          [Event.of .claimRefused (station := some s.own) (tag := some tag) (code := Reason.badClass.code)] else []) []
          s.host.reply s t) ∧
    ∀ (m : MotionClass) (reason : Reason),
      sender = s.own ∨ (s.peers.get sender).admission.member = true →
      s.claims.find tag = none → MotionClass.ofCode cls = some m →
      ((ClaimKind.parse cls params = none ∨ s.muster.map.get sender ≠ m.originator.code) ∧ reason = .badClass) ∨
        (∃ kind, ClaimKind.parse cls params = some kind ∧ s.muster.map.get sender = m.originator.code ∧
          (∃ e ∈ s.claims.table, compatible e.kind kind = false) ∧ reason = .conflict) →
      ∀ told : List Event,
        told = (if sender = s.own then
          [Event.of .claimRefused (station := some s.own) (tag := some tag) (code := reason.code)] else []) →
      (inMask (consentSetOf s.muster.map m) s.own = false →
        ∃ t, exec c s = .next t ∧ t.link = l ∧ SameExcept [.link] s t ∧ Ends told [] s.host.reply s t) ∧
      (inMask (consentSetOf s.muster.map m) s.own = true → l.count < 12 →
        ∃ t, exec c s = .next t ∧ t.link = l.insert (.refuse tag reason) ∧
          SameExcept [.link] s t ∧ Ends told [] s.host.reply s t) ∧
      (inMask (consentSetOf s.muster.map m) s.own = true → 12 ≤ l.count → s.mode = .run ∨ s.mode = .parked →
        ∃ t, exec c s = .next t ∧ t.claims.table = [] ∧ t.mode ∈ [Mode.safed, .safeDown, .lockout] ∧
          ∃ aux value, Announces
            (Event.of .trip (station := some s.own) (code := 6) (aux := aux) (value := value)) s t)

/-- A member's GRANT, the own one taken among them, is counted; the last one makes the entry GRANTED, and an originator
that is ready queues its TAKE, one that is not a RELEASE with NOT_READY, and one whose release is pending nothing (R38,
R85, R86). One of a station that is no member, or of a peer whose entry is STALE, LOST or FOREIGN, is ignored. -/
def Obligations.GrantIsCounted : Prop :=
  ∀ (c : Instr) (sender : Station) (tag : Tag) (l : LinkController) (s : State), Delivery c sender (.grant tag) l s →
    ∀ e : ClaimEntry, s.claims.find tag = some e →
    (inMask e.consentSet sender = false ∨
        (sender ≠ s.own ∧ (s.peers.get sender).admission ∈ [Admission.stale, .lost, .foreign]) →
      ∃ t, exec c s = .next t ∧ t.link = l ∧ SameExcept [.link] s t ∧
        Ends [Event.of .frameIgnored (station := some sender) (tag := some tag) (code := FrameKind.grant.code)
          (aux := if inMask e.consentSet sender then (s.peers.get sender).admission.code else ignoredNotMember)] []
          s.host.reply s t) ∧
    (inMask e.consentSet sender = true →
      sender = s.own ∨ (s.peers.get sender).admission ∉ [Admission.stale, .lost, .foreign] →
      (inMask e.grants sender = true →
        ∃ t, exec c s = .next t ∧ t.link = l ∧ SameExcept [.link] s t ∧ Ends [] [] s.host.reply s t) ∧
      (inMask e.grants sender = false →
        (e.consentSet &&& ~~~(e.grants ||| stationBit sender) ≠ 0 →
          ∃ t, exec c s = .next t ∧
            t.claims = { s.claims with
              table := s.claims.table.map fun x =>
                if x.tag = tag then { x with grants := x.grants ||| stationBit sender } else x } ∧
            t.link = l ∧ SameExcept [.claims, .link] s t ∧ Ends [] [] s.host.reply s t) ∧
        (e.consentSet &&& ~~~(e.grants ||| stationBit sender) = 0 → e.isOwn s.own = false →
          ∃ t, exec c s = .next t ∧
            t.claims = { s.claims with
              table := s.claims.table.map fun x =>
                if x.tag = tag then { x with grants := x.grants ||| stationBit sender, state := .granted } else x } ∧
            t.link = l ∧ SameExcept [.claims, .link] s t) ∧
        (e.consentSet &&& ~~~(e.grants ||| stationBit sender) = 0 → e.isOwn s.own = true →
          (s.mode = .run → s.trips.gated = false → e.releasePending = false → l.count < 12 →
            ∃ t, exec c s = .next t ∧
              (∃ x ∈ t.claims.table, x.tag = tag ∧ x.state = .granted ∧ x.takeQueued = true ∧ x.grantWindow = none) ∧
              t.link = l.insert (.take tag) ∧ SameExcept [.claims, .link] s t) ∧
          (s.mode ≠ .run ∨ s.trips.gated = true → e.releasePending = false → l.count < 12 →
            l.waits (.take tag) = false →
            ∃ t, exec c s = .next t ∧
              (∃ x ∈ t.claims.table, x.tag = tag ∧ x.state = .granted ∧ x.releasePending = true ∧
                x.grantWindow = none) ∧
              t.link = l.insert (.release tag .notReady) ∧ SameExcept [.claims, .link] s t) ∧
          (e.releasePending = true →
            ∃ t, exec c s = .next t ∧
              t.claims = { s.claims with
                table := s.claims.table.map fun x =>
                  if x.tag = tag then
                    { x with grants := x.grants ||| stationBit sender, state := .granted, grantWindow := none }
                  else x } ∧
              t.link = l ∧ SameExcept [.claims, .link] s t ∧ Ends [] [] s.host.reply s t))))

/-- The originator's TAKE makes its GRANTED entry HELD, with the event at a party; the own one taken also opens the
rotation account at ROTARY and the keyed stop at HOIST. On a PENDING entry it is a divergence in RUN and PARKED and is
ignored elsewhere; on a HELD one it does nothing (R38, R88, R98, R109, R152, R155). -/
def Obligations.TakeHolds : Prop :=
  ∀ (c : Instr) (sender : Station) (tag : Tag) (l : LinkController) (s : State), Delivery c sender (.take tag) l s →
    ∀ e : ClaimEntry, s.claims.find tag = some e →
    sender = tag.station → (sender ≠ s.own → (s.peers.get sender).admission ≠ .foreign) →
    ∀ after : ClaimState → ClaimEngine,
      (∀ state, after state = { s.claims with
        table := s.claims.table.map fun x =>
          if x.tag = tag then
            { x with
              state := if e.state = .granted then state else x.state
              takeQueued := x.takeQueued && decide (sender ≠ s.own) }
          else x }) →
    (e.state = .granted →
      ∃ t, exec c s = .next t ∧ t.claims = after .held ∧ t.link = l ∧
        (sender ≠ s.own →
          SameExcept [.claims] s t ∧
          Ends (if e.isParty s.own then [Event.of .claimHeld (tag := some tag)] else []) [] s.host.reply s t) ∧
        (sender = s.own →
          SameExcept [.claims, .link, .lockTurn, .envelope] s t ∧
          t.envelope = { s.envelope with keyedStop := s.envelope.keyedStop || t.keyedActs } ∧
          (t.keyedActs = true → s.envelope.keyedStop = false → Announces (Event.of .keyedStop) s t) ∧
          (s.isRole .rotary = false → t.lockTurn = s.lockTurn) ∧
          (s.isRole .rotary = true → e.kind.cls ≠ .lockTurn →
            t.lockTurn = { s.lockTurn with
              account := e.kind.account
              stallCount := if e.kind = .rotate false then 0 else s.lockTurn.stallCount }) ∧
          Announces (Event.of .claimHeld (tag := some tag)) s t)) ∧
    (e.state = .held →
      ∃ t, exec c s = .next t ∧ t.claims = after .held ∧ t.link = l ∧ SameExcept [.claims, .link] s t ∧
        Ends [] [] s.host.reply s t) ∧
    (e.state = .pending → s.mode ≠ .run → s.mode ≠ .parked →
      ∃ t, exec c s = .next t ∧ t.claims = after .held ∧ t.link = l ∧ SameExcept [.claims, .link] s t ∧
        Ends [Event.of .frameIgnored (station := some sender) (tag := some tag) (code := FrameKind.take.code)
          (aux := ignoredUngranted)] [] s.host.reply s t) ∧
    (e.state = .pending → s.mode = .run ∨ s.mode = .parked →
      ∃ t, exec c s = .next t ∧ t.claims.table = [] ∧ t.mode ∈ [Mode.safed, .safeDown, .lockout])

/-- A RELEASE by the originator, and a REFUSE or a REVOKE by a member, the own ones taken among them, remove the entry
from its place and the answers queued for it, with the event at a party; the station's own axis is touched only where
the entry was its own, or was a LOCK_TURN at HOIST, and a CROWD's force demand drops to 0 with its own CROWD_LOAD (R38,
R40, R90, R91, R93, R98, R110). -/
def Obligations.EndingsRemoveTheEntry : Prop :=
  ∀ (c : Instr) (sender : Station) (tag : Tag) (f : Frame) (told : Event) (l : LinkController) (s : State),
    Delivery c sender f l s → ∀ e : ClaimEntry, s.claims.find tag = some e →
    (sender ≠ s.own → (s.peers.get sender).admission ≠ .foreign) →
    (∃ result, f = .release tag result ∧ sender = tag.station ∧
        told = Event.of .claimReleased (tag := some tag) (code := result.code)) ∨
      (∃ reason, f = .refuse tag reason ∧ inMask e.consentSet sender = true ∧
        told = Event.of .claimRefused (station := some sender) (tag := some tag) (code := reason.code)) ∨
      (∃ reason, f = .revoke tag reason ∧ inMask e.consentSet sender = true ∧
        told = Event.of .claimRevoked (station := some sender) (tag := some tag) (code := reason.code)) →
    ∃ t, exec c s = .next t ∧ tag ∉ t.claims.liveTags ∧
      (s.isRole .hoist = false ∨ e.kind.cls ≠ .lockTurn →
        t.claims = { s.claims with table := s.claims.table.filter fun x => decide (x.tag ≠ tag) } ∧
        t.link = l.remove (fun i => i.isAnswer && decide (i.tag = some tag)) ∧
        SameExcept [.claims, .link, .envelope, .lockTurn, .segments] s t ∧
        (e.isOwn s.own = false →
          SameExcept [.claims, .link] s t ∧ Ends (if e.isParty s.own then [told] else []) [] s.host.reply s t) ∧
        (e.isOwn s.own = true →
          Announces told s t ∧
          (s.isRole .crowd = true → e.kind.cls = .crowdLoad → t.envelope.demand = 0)))

/-- A claim frame for a tag that is not live, a peer's or the own one taken, is stray, but for a REFUSE for a bad class
or a conflict, which ends nothing (R38, R81, R85, R88, R90, R91, R93). For a live entry a TAKE or RELEASE from another
than its originator, a REFUSE or REVOKE from one that is no member, and each of the four from a FOREIGN station is
ignored, with NOT_ORIGINATOR, NOT_MEMBER or FOREIGN (R88, R90, R91, R93). -/
def Obligations.ClaimFramesAreStrayOrIgnored : Prop :=
  ∀ (c : Instr) (sender : Station) (tag : Tag) (f : Frame) (l : LinkController) (s : State), Delivery c sender f l s →
    (s.claims.find tag = none →
      (f = .grant tag ∨ f = .take tag ∨ (∃ result, f = .release tag result) ∨ (∃ reason, f = .revoke tag reason) ∨
          (∃ reason, f = .refuse tag reason ∧ reason ≠ .badClass ∧ reason ≠ .conflict) →
        ∃ t, exec c s = .next t ∧ t.link = l ∧ SameExcept [.link] s t ∧
          Ends [Event.of .strayFrame (station := some sender) (tag := some tag) (code := f.kind.code)] [] s.host.reply
            s t) ∧
      (f = .refuse tag .badClass ∨ f = .refuse tag .conflict →
        ∃ t, exec c s = .next t ∧ t.link = l ∧ SameExcept [.link] s t ∧ Ends [] [] s.host.reply s t)) ∧
    ∀ e : ClaimEntry, s.claims.find tag = some e → ∀ aux : Nat,
      ((f = .take tag ∨ ∃ result, f = .release tag result) ∧
          (sender ≠ tag.station ∧ aux = ignoredNotOriginator ∨
            sender = tag.station ∧ sender ≠ s.own ∧ (s.peers.get sender).admission = .foreign ∧
              aux = Admission.foreign.code)) ∨
        ((∃ reason, f = .refuse tag reason ∨ f = .revoke tag reason) ∧
          (inMask e.consentSet sender = false ∧ aux = ignoredNotMember ∨
            inMask e.consentSet sender = true ∧ sender ≠ s.own ∧ (s.peers.get sender).admission = .foreign ∧
              aux = Admission.foreign.code)) →
      ∃ t, exec c s = .next t ∧ t.link = l ∧ SameExcept [.link] s t ∧
        Ends [Event.of .frameIgnored (station := some sender) (tag := some tag) (code := f.kind.code) (aux := aux)] []
          s.host.reply s t

/-- A REVOKE or REFUSE of an own HELD entry abandons the begun segment: outside a body that segment alone leaves the
queue, inside one the whole body does, the run pointer names the segment that followed, and SEGMENT_ABANDONED is posted
with the number removed (R91, R93, R139). -/
def Obligations.RevokeAbandonsTheSegment : Prop :=
  ∀ (c : Instr) (sender : Station) (tag : Tag) (f : Frame) (l : LinkController) (s : State), Delivery c sender f l s →
    (∃ reason, f = .revoke tag reason ∨ f = .refuse tag reason) →
    ∀ e : ClaimEntry, s.claims.find tag = some e →
    (sender ≠ s.own → (s.peers.get sender).admission ≠ .foreign) → inMask e.consentSet sender = true →
    e.isOwn s.own = true → e.state = .held → s.isRole .hoist = false ∨ e.kind.cls ≠ .lockTurn →
    s.segments.begun = true → ∀ i, s.segments.pointer = some i → ∀ x : Segment, s.segments.queue[i]? = some x →
    ∀ first next : Nat,
      (bodyMark s.segments.queue i = none ∧ first = i ∧ next = i + 1) ∨
        (bodyMark s.segments.queue i = some first ∧ next = bodyEnd s.segments.queue i) →
    ∃ t, exec c s = .next t ∧
      t.claims = { s.claims with table := s.claims.table.filter fun y => decide (y.tag ≠ tag) } ∧
      t.segments.queue = s.segments.queue.take first ++ s.segments.queue.drop next ∧
      t.segments.pointer = (if next < s.segments.queue.length then some first else none) ∧
      t.segments.begun = false ∧ t.segments.remaining = 0 ∧ t.segments.accumulation = 0 ∧ t.segments.mark = none ∧
      t.segments.value = s.segments.value ∧
      Announces (Event.of .segmentAbandoned (tag := some tag) (code := x.body.code) (value := next - first)) s t ∧
      SameExcept [.claims, .link, .envelope, .lockTurn, .segments] s t

/-- At HOIST a RELEASE that carries a lock-turn result applies it to the entry's section by the table of R19: DONE of an
ENGAGE seats it in the nearest pocket within the window, the lower of two equally near, or, with none, marks it DOUBTFUL
with STRING_MISMATCH (R11); DONE of a DISENGAGE frees it; a failure leaves or doubts it. A HELD LOCK_TURN that leaves
otherwise, by another RELEASE, a REFUSE, a REVOKE or a voiding, marks it DOUBTFUL; one not HELD leaves the record as it
was (R19, R20, R90, R93, R95). On an UNCERTAIN record too the section seated takes its pocket's extension (log 45). -/
def Obligations.LockTurnResultsAreApplied : Prop :=
  (∀ (g : Image) (k : Nat) (ext : Int) (p : Nat),
    nearestPocket g k ext = some p ↔
      p < g.pocketCount k ∧ ((g.pocket k p - ext).natAbs : Int) ≤ g.window ∧
        ∀ i, i < g.pocketCount k → (g.pocket k p - ext).natAbs < (g.pocket k i - ext).natAbs ∨
          ((g.pocket k p - ext).natAbs = (g.pocket k i - ext).natAbs ∧ p ≤ i)) ∧
  ∀ (c : Instr) (sender : Station) (f : Frame) (l : LinkController) (s : State), Delivery c sender f l s →
    f.wf = true → s.isRole .hoist = true → ClaimSound s →
    ∀ (e : ClaimEntry) (k : Nat) (disengage : Bool) (r : StringRecord) (x : SectionEntry),
    s.claims.find e.tag = some e → e.kind = .lockTurn k disengage → s.strings.record = some r →
    r.sectionAt k = some x → (sender ≠ s.own → (s.peers.get sender).admission ≠ .foreign) →
    (∀ result, f = .release e.tag result → sender = e.tag.station →
      ∃ t, exec c s = .next t ∧ e.tag ∉ t.claims.liveTags ∧
        (result.isLockTurn = false → e.state ≠ .held → t.strings = s.strings) ∧
        (result.isLockTurn = true ∨ e.state = .held → ∀ want : SectionEntry,
          want =
            (match result, disengage with
            | .done, false =>
              match nearestPocket s.image k x.ext with
              | some p => { lock := .seated (Fin.ofNat 4 p), ext := s.image.pocket k p }
              | none => { x with lock := .doubtful }
            | .done, true => { lock := if x.ext = 0 then .retracted else .free, ext := x.ext }
            | .failedAngle, false | .failedTime, false => x
            | _, _ => { x with lock := .doubtful }) →
          ∃ r', t.strings.record = some r' ∧
            (want.fixed = true ∨ r.certain = false → r'.sectionAt k = some want) ∧
            (want.fixed = false → ∃ y, r'.sectionAt k = some y ∧ y.fixed = false) ∧
            (∀ j y, j ≠ k → r.sectionAt j = some y → y.fixed = true → r'.sectionAt j = some y) ∧
            (result = .done → disengage = false → nearestPocket s.image k x.ext = none → s.strings.mismatch = false →
              ∃ aux value, Announces
                (Event.of .trip (station := some s.own) (code := 4) (aux := aux) (value := value)) s t))) ∧
    ((∃ reason, f = .refuse e.tag reason ∨ f = .revoke e.tag reason) → inMask e.consentSet sender = true →
      ∃ t, exec c s = .next t ∧ e.tag ∉ t.claims.liveTags ∧
        (e.state ≠ .held → t.strings = s.strings) ∧
        (e.state = .held → ∃ r', t.strings.record = some r' ∧ r'.sectionAt k = some { x with lock := .doubtful })) ∧
    ((∃ origin cause, f = .trip origin cause) →
      ∃ t, exec c s = .next t ∧ t.claims.table = [] ∧
        (e.state = .held → ∃ r', t.strings.record = some r' ∧ r'.sectionAt k = some { x with lock := .doubtful }))

/-- A STRING frame from the HOIST station fills the copy whole and sets the refreshed mark; where its load path is
BROKEN or its record UNCERTAIN, a CROWD under the force permit drops the crowd, with LOAD_PATH (R110). One from a HOIST
that is not judged does nothing, and any other is stray (R23 to R25). -/
def Obligations.StringFrameFillsTheCopy : Prop :=
  ∀ (sender : Station) (g : StringImage) (s : State), s.hears sender → g.wf = true →
    (s.isRole .hoist = false → s.muster.map.get sender = Role.hoist.code →
      (s.peers.get sender).admission.member = true →
      ∃ t, exec (.stringFrame sender g) s = .next t ∧
        t.strings = { s.strings with copy := some g, refreshed := true } ∧
        t.copyValid = t.freshRole .hoist ∧ SameExcept [.strings, .envelope] s t ∧
        ∀ drops : Bool, (drops = true ↔ s.crowdPermit = true ∧ ¬ (g.loadComplete = true ∧ g.certain = true)) →
          t.envelope =
            (if drops then { s.envelope with dropLatch := true, demand := min 0 s.envelope.demand } else s.envelope) ∧
          Ends ((if s.strings.copy.map (·.generation) = some g.generation then []
              else [Event.of .stringChange (value := g.generation.toNat)]) ++
            (if s.copyValid = false ∧ t.copyValid = true then [Event.of .copyValid] else []) ++
            (if drops then [Event.of .crowdDrop (code := 2)] else []))
            [8] s.host.reply s t) ∧
    (s.isRole .hoist = false → s.muster.map.get sender = Role.hoist.code →
      (s.peers.get sender).admission.member = false →
      ∃ t, exec (.stringFrame sender g) s = .next t ∧ SameExcept [] s t ∧ Ends [] [] s.host.reply s t) ∧
    (s.isRole .hoist = true ∨ s.muster.map.get sender ≠ Role.hoist.code →
      ∃ t, exec (.stringFrame sender g) s = .next t ∧ SameExcept [] s t ∧
        Ends [Event.of .strayFrame (station := some sender) (code := FrameKind.string.code)] [] s.host.reply s t)

/-- A beacon of an awaited or trusted peer that agrees with the muster map and comes in its sequence is admitted: the
entry is FRESH and holds it. One that disagrees makes the entry FOREIGN; one out of sequence makes it LOST, with
UNADMITTED_BEACON; each change posts PEER_STATE. A FOREIGN, LOST or ABSENT station's beacon is not admitted: it returns
the silence to 0, or is reported once (R62 to R67, R72). An admitted beacon's live tags are compared in RUN and PARKED,
the second mismatch in a row tripping the station (R97). No other entry changes. -/
def Obligations.BeaconIsJudged : Prop :=
  ∀ (sender : Station) (b : BeaconRecord) (s : State), s.hears sender → b.wf = true →
    ∃ t, exec (.beaconFrame sender b) s = .next t ∧ (∀ i, i ≠ sender → t.peers.get i = s.peers.get i) ∧
      t.image = s.image ∧ t.muster.straps = s.muster.straps ∧ t.muster.map = s.muster.map ∧ t.stamp = s.stamp ∧
      t.pending = s.pending ∧
      (∀ p, p = s.peers.get sender →
        (p.admission ∈ [Admission.awaiting, .fresh, .stale] → b.map = s.muster.map →
          b.role.toNat = p.role.toNat → p.admission = .awaiting ∨ (∀ l, p.lastSeq = some l → (b.seq - l).toNat ≤ 12) →
          (t.peers.get sender).admission = .fresh ∧ (t.peers.get sender).beacon = some b ∧
          (t.peers.get sender).lastSeq = some b.seq ∧ (t.peers.get sender).silence = 0 ∧
          (t.peers.get sender).role = p.role ∧
          (t.peers.get sender).parkMask = (if b.mode.toNat = Mode.parked.code then p.parkMask else none) ∧
          (p.admission ≠ .fresh →
            Announces (Event.of .peerState (station := some sender) (code := Admission.fresh.code)) s t) ∧
          ∀ same : Prop, (same ↔ ∀ tag, tag ∈ b.tags ↔ tag ∈ s.claims.liveTags) →
            (same ∨ (s.mode ≠ .run ∧ s.mode ≠ .parked) → (t.peers.get sender).divergence = 0) ∧
            (¬ same → s.mode = .run ∨ s.mode = .parked →
              (t.peers.get sender).divergence = (if p.divergence = 0 then 1 else 0) ∧
              Announces (Event.of .tagsDiffer (station := some sender) (value := p.divergence + 1)) s t ∧
              (p.divergence ≠ 0 → t.claims.table = [] ∧ t.mode ∈ [Mode.safed, .safeDown, .lockout] ∧
                ∃ aux value, Announces
                  (Event.of .trip (station := some s.own) (code := 10) (aux := aux) (value := value)) s t))) ∧
        (p.admission ∈ [Admission.awaiting, .fresh, .stale] → ¬ (b.map = s.muster.map ∧ b.role.toNat = p.role.toNat) →
          t.peers = s.peers.set sender { p with admission := .foreign, silence := 0 } ∧
          Announces (Event.of .peerState (station := some sender) (code := Admission.foreign.code)) s t) ∧
        (p.admission ∈ [Admission.fresh, .stale] → b.map = s.muster.map → b.role.toNat = p.role.toNat →
          (∀ l, p.lastSeq = some l → 12 < (b.seq - l).toNat) → p.lastSeq ≠ none →
          t.peers = s.peers.set sender { p with admission := .lost, unadmitted := true } ∧
          Announces (Event.of .peerState (station := some sender) (code := Admission.lost.code)) s t ∧
          Announces (Event.of .unadmittedBeacon (station := some sender) (code := 1)) s t) ∧
        (p.admission = .foreign →
          t.peers = s.peers.set sender { p with silence := 0 } ∧ SameExcept [.peers] s t ∧
          Ends [] [] s.host.reply s t) ∧
        (p.admission = .lost →
          t.peers = s.peers.set sender { p with unadmitted := true } ∧ SameExcept [.peers] s t ∧
          Ends (if p.unadmitted then []
            else [Event.of .unadmittedBeacon (station := some sender) (code := 0)]) [] s.host.reply s t) ∧
        (p.admission = .absent →
          t.muster = { s.muster with lateMarks := s.muster.lateMarks ||| stationBit sender } ∧
          SameExcept [.muster] s t ∧
          Ends (if inMask s.muster.lateMarks sender then []
            else [Event.of .lateJoiner (station := some sender)]) [] s.host.reply s t))

/-- HOIST's string record at an admitted beacon. CROWD's gives the sledge position; where it makes the entry FRESH the
record becomes CERTAIN, by the start rule where the start is pending (R6, R13, R18; the mark set before it is log 48).
ROTARY's with UNKEYED frees every section held fixed, with UNKEY (R21). Where a trip in the same delivery changes the
mode, this holds with no LOCK_TURN HELD; the voiding marks the section of one that is (R20). -/
def Obligations.StringRecordTakesBeacons : Prop :=
  ∀ (sender : Station) (b : BeaconRecord) (s : State) (r : StringRecord), Admitted sender b s →
    s.isRole .hoist = true → s.strings.record = some r →
    ∃ t, exec (.beaconFrame sender b) s = .next t ∧
      (t.mode = s.mode ∨ (∀ e ∈ s.claims.table, e.state = .held → e.kind.cls ≠ .lockTurn) →
        (s.stationOf .crowd = some sender →
          t.strings.lastSledge = some b.position ∧
          ∀ payout, s.strings.lastPayout = some payout →
            ∀ measured, measured = payout - s.image.restPayout - b.position - r.slack →
            (r.certain = true ∨ ((s.peers.get sender).admission ≠ .fresh ∧ s.strings.startPending = false) →
              ∃ r', t.strings.record = some r' ∧ r'.certain = true ∧
                r'.sections = (deal s.image 2 r.sections (max 0 (measured - fixedSum r.sections))).1 ∧
                r'.depth = s.image.depthOffset + b.position + extSum r'.sections) ∧
            (r.certain = false → (s.peers.get sender).admission ≠ .fresh → s.strings.startPending = true →
              t.strings.startPending = false ∧
              ∃ r', t.strings.record = some r' ∧ r'.certain = true ∧ r'.generation = r.generation + 1 ∧
                r'.sections.length = r.sections.length ∧ r'.total = extSum r'.sections ∧
                r'.depth = s.image.depthOffset + b.position + extSum r'.sections ∧
                (-s.image.window ≤ measured ∧ measured ≤ s.image.window →
                  (∀ e ∈ r'.sections, e = { lock := .retracted, ext := 0 }) ∧ r'.loadComplete = true) ∧
                (¬ (-s.image.window ≤ measured ∧ measured ≤ s.image.window) →
                  (∀ e ∈ r'.sections, e.lock = .doubtful) ∧
                  r'.sections.map (·.ext) =
                    (deal s.image 2 (r.sections.map fun _ => { lock := .retracted, ext := 0 })
                      (max 0 measured)).1.map (·.ext) ∧
                  (measured < -s.image.window ∨
                      freeStrokes s.image 2 (r.sections.map fun _ => { lock := .retracted, ext := 0 })
                        + s.image.window < measured →
                    t.strings.mismatch = true)))) ∧
        (s.stationOf .rotary = some sender → b.unkeyed = true → (∃ e ∈ r.sections, e.fixed = true) →
          Announces (Event.of .unkey (value := (r.sections.filter (·.fixed)).length)) s t ∧
          ∃ r', t.strings.record = some r' ∧ (∀ e ∈ r'.sections, e.fixed = false) ∧
            r'.generation = r.generation + 1 ∧
            (r.certain = false →
              r'.sections = r.sections.map fun e =>
                if e.fixed then { lock := if e.ext = 0 then .retracted else .free, ext := e.ext } else e)))

/-- The watch list on an admitted beacon: each pattern that watches the sender holds it in its match set exactly where
its comparison holds (R173). A NOTE match that begins posts WATCH_NOTE; a TRIP match raises WATCH_MATCH (R174). The gate
state is set while a GATE match set is non-empty, with WATCH_GATE at both ends; at its rise each consent is revoked for
GATED and each own GRANTED or HELD claim released, the event naming the first GATE pattern whose match begins (R175; log
19). The comparison is of the field the pattern names. The TRIP event carries the own station (log 11), WATCH_NOTE and
WATCH_GATE the pattern's index in the value (log 27). -/
def Obligations.WatchListActs : Prop :=
  (∀ (p : Pattern) (b : BeaconRecord) (value : Int),
    value = (match p.field with
      | .mode => (b.mode.toNat : Int)
      | .flag i => bit ([b.atRest, b.stall, b.unkeyed, b.clearRefused, b.gated].getD i.val false)
      | .primary => b.primary
      | .secondary => b.secondary
      | .position => b.position) →
    (p.compare = .equal → (p.holdsOf b = true ↔ value = p.value)) ∧
    (p.compare = .above → (p.holdsOf b = true ↔ p.value < value)) ∧
    (p.compare = .below → (p.holdsOf b = true ↔ value < p.value))) ∧
  ∀ (sender : Station) (b : BeaconRecord) (s : State), Admitted sender b s →
    ∃ t, exec (.beaconFrame sender b) s = .next t ∧
      (∀ i j, inMask (t.trips.matchSets.get i) j =
        match s.image.patterns.get i with
        | some p =>
          if j = sender ∧ (p.station = none ∨ p.station = some sender) then p.holdsOf b
          else inMask (s.trips.matchSets.get i) j
        | none => inMask (s.trips.matchSets.get i) j) ∧
      (∀ i p, s.image.patterns.get i = some p → Begins i s t →
        (p.action = .note → Announces (Event.of .watchNote (station := some sender) (value := i.val)) s t) ∧
        (p.action = .trip → t.mode ≠ .run ∧ t.mode ≠ .parked ∧ ∃ aux value,
          Announces (Event.of .trip (station := some s.own) (code := 11) (aux := aux) (value := value)) s t)) ∧
      (s.trips.gated = true →
        (t.trips.gated = true ↔
          ∃ i p, s.image.patterns.get i = some p ∧ p.action = .gate ∧ t.trips.matchSets.get i ≠ 0) ∧
        (t.trips.gated = false → Announces (Event.of .watchGate (code := 1)) s t)) ∧
      (s.trips.gated = false →
        (t.trips.gated = true ↔ ∃ i p, s.image.patterns.get i = some p ∧ p.action = .gate ∧ Begins i s t) ∧
        (t.trips.gated = true →
          (∀ i p, s.image.patterns.get i = some p → p.action = .gate → Begins i s t →
            (∀ j q, j < i → s.image.patterns.get j = some q → q.action = .gate → ¬ Begins j s t) →
            Announces (Event.of .watchGate (code := 0) (value := i.val)) s t) ∧
          (ClaimSound s → t.mode = .run ∨ t.mode = .parked →
            ∀ e ∈ s.claims.table, ∃ e' ∈ t.claims.table, e'.tag = e.tag ∧
              (e.consent = true → e'.revokeQueued = true ∧
                (e.revokeQueued = false → TxItem.revoke e.tag .gated ∈ t.link.items)) ∧
              (e.isOwn s.own = true → e.state ≠ .pending → e'.releasePending = true ∧
                (e.releasePending = false → TxItem.release e.tag .cancelled ∈ t.link.items)))))

/-- A peer's beacon in MUSTER ends the muster: by rejoin under the map it carries where that map holds the station with
its role, otherwise in MUSTER_FAULT, NOT_IN_RIG (R55). A peer's MUSTER frame in MUSTER enters its sender and the
stations it carries into the map where the map holds nothing else for them; where it does, the conflict mark is set; a
role then held twice joins the duplicated-role set. One with a code that names no role is stray. After the close it
marks a late joiner once (R53, R58). Stated where no peer is admitted yet, which every step keeps. -/
def Obligations.MusterHearsItsPeers : Prop :=
  (∀ (sender : Station) (b : BeaconRecord) (s : State), s.mode = .muster → s.link.isSending = false →
    sender ≠ s.own → b.wf = true →
    (b.map.get s.own = s.muster.straps.role →
      ∃ t, exec (.beaconFrame sender b) s = .next t ∧ t.mode = .safed ∧ t.muster.map = b.map ∧
        t.muster.conflict = false ∧ t.muster.dupRoles = 0 ∧ t.muster.peerFault = false ∧
        t.muster.windowTimer = none) ∧
    (b.map.get s.own ≠ s.muster.straps.role →
      ∃ t, exec (.beaconFrame sender b) s = .next t ∧ t.mode = .musterFault ∧ t.link.queue = [] ∧
        SameExcept [.mode, .muster, .link] s t ∧
        Ends [Event.of .musterFault (station := some sender) (code := 4)] [] s.host.reply s t)) ∧
  ∀ (sender : Station) (role : Byte) (map : Eight RoleCode) (fault : Bool) (s : State), sender ≠ s.own →
    s.link.isSending = false →
    (s.mode = .muster → PeersAbsent s → role.toNat ≤ 4 → (∀ i, map.get i ≠ 5 ∧ map.get i ≠ 6) →
      ∃ t, exec (.musterFrame sender role map fault) s = .next t ∧ SameExcept [.muster] s t ∧
        Ends [] [] s.host.reply s t ∧ t.muster.peerFault = (s.muster.peerFault || fault) ∧
        (∀ role : Nat, role < 5 → t.muster.dupRoles.getLsbD role =
          (s.muster.dupRoles.getLsbD role || decide (2 ≤ t.muster.map.toList.count (BitVec.ofNat 3 role)))) ∧
        (∀ i, s.muster.map.get i ≠ roleNone → t.muster.map.get i = s.muster.map.get i) ∧
        (s.muster.map.get sender = roleNone → (t.muster.map.get sender).toNat = role.toNat) ∧
        (∀ i, i ≠ sender → i ≠ s.own → s.muster.map.get i = roleNone → t.muster.map.get i = map.get i) ∧
        (s.muster.map.get sender ≠ roleNone → (s.muster.map.get sender).toNat ≠ role.toNat →
          t.muster.conflict = true) ∧
        (∀ i, i ≠ sender → map.get i ≠ roleNone → s.muster.map.get i ≠ roleNone →
          s.muster.map.get i ≠ map.get i → s.muster.map.get s.own = s.muster.straps.role →
          t.muster.conflict = true)) ∧
    (s.mode = .muster → 4 < role.toNat ∨ (∃ i, map.get i = 5 ∨ map.get i = 6) →
      ∃ t, exec (.musterFrame sender role map fault) s = .next t ∧ SameExcept [] s t ∧
        Ends [Event.of .strayFrame (station := some sender) (code := FrameKind.muster.code)] [] s.host.reply s t) ∧
    (s.mode.beaconing = true → inMask s.muster.lateMarks sender = true →
      ∃ t, exec (.musterFrame sender role map fault) s = .next t ∧ SameExcept [] s t ∧
        Ends [] [] s.host.reply s t) ∧
    (s.mode.beaconing = true → inMask s.muster.lateMarks sender = false →
      ∃ t, exec (.musterFrame sender role map fault) s = .next t ∧
        t.muster = { s.muster with lateMarks := s.muster.lateMarks ||| stationBit sender } ∧
        SameExcept [.muster] s t ∧ Ends [Event.of .lateJoiner (station := some sender)] [] s.host.reply s t)

/-- How images, patterns and maps are judged. JOIN's check names the first item of the first condition of the role that
fails, for the geometry the first bad pocket by section and index (R51; of two neighbours the later, log 39). A pattern
block is unused, one consistent pattern, or refused (R50, R190; bytes that name nothing are log 16). A muster fails by
STATION_CONFLICT, DUPLICATE_ROLE, PEER_FAULT or MISSING_ROLE in this order, with the first role concerned (R54; a CASING
held twice with no duplicated role marked is log 29). -/
def Obligations.ImagesAndMapsAreJudged : Prop :=
  (∀ g : Image, g.joinFault .panel = none ∧
    ∀ (role : Role) (limits band : Prop), role ≠ .panel → (limits ↔ g.hardLow < 0 ∧ 0 < g.hardHigh) →
      (band ↔ g.restBand < -g.hardLow ∧ g.restBand < g.hardHigh) →
      (¬ limits → g.joinFault role = some 40) ∧ (limits → ¬ band → g.joinFault role = some 39) ∧
      (limits → band →
        (role = .casing → g.joinFault role = none) ∧
        (role = .rotary → g.joinFault role = if g.seatTorque < g.stallTorque then none else some 56) ∧
        (role = .crowd → g.joinFault role =
          if g.reliefEnd ≤ g.reliefOnset then some 49 else if g.maxForce ≤ g.slackForce then some 48 else none) ∧
        (role = .hoist → ∀ bad : Nat → Nat → Prop,
          (∀ k i, bad k i ↔ 2 ≤ k ∧ k ≤ g.sectionCount ∧ i < g.pocketCount k ∧
            (g.stroke k < g.pocket k i ∨ 0 < i ∧ g.pocket k i - g.pocket k (i - 1) ≤ 2 * g.window)) →
          ((∀ k i, ¬ bad k i) →
            g.joinFault role = if g.hangThreshold < g.followTension then none else some 44) ∧
          ∀ k i, bad k i → (∀ k' i', bad k' i' → k < k' ∨ k = k' ∧ i ≤ i') →
            g.joinFault role = some (11 + 4 * (k - 2) + i)))) ∧
  (∀ block : BitVec 64,
    (blockByte block 0 = 0 → parsePattern block = some none) ∧
    (2 ≤ (blockByte block 0).toNat → parsePattern block = none) ∧
    (blockByte block 0 = 1 → parsePattern block ≠ some none ∧
      ∀ p : Pattern, parsePattern block = some (some p) ↔
        (blockByte block 1).toNat = p.station.elim 8 (·.val) ∧
        [WatchField.mode, .flag 0, .flag 1, .flag 2, .flag 3, .flag 4, .primary, .secondary,
          .position][(blockByte block 2).toNat]? = some p.field ∧
        [WatchCompare.equal, .above, .below][(blockByte block 3).toNat]? = some p.compare ∧
        (block.extractLsb' 8 24).toInt = p.value ∧
        [WatchAction.trip, .gate, .note][(blockByte block 7).toNat]? = some p.action ∧
        -150000 ≤ p.value ∧ p.value ≤ 150000 ∧
        (p.field = .mode → p.compare = .equal ∧ 5 ≤ p.value ∧ p.value ≤ 9) ∧
        (∀ i, p.field = .flag i → p.compare = .equal ∧ (p.value = 0 ∨ p.value = 1)))) ∧
  ∀ (m : MusterUnit) (wrong : Role → Prop),
    (∀ r, wrong r ↔
      if r = .casing then 2 ≤ m.map.toList.count r.code else m.map.toList.count r.code ≠ 1) →
    (m.conflict = true → m.verdict = some (0, 0)) ∧
    (m.conflict = false → ∀ r : Role, m.dupRoles.getLsbD r.code.toNat = true →
      (∀ r' : Role, r'.code.toNat < r.code.toNat → m.dupRoles.getLsbD r'.code.toNat = false) →
      m.verdict = some (1, r.code.toNat)) ∧
    (m.conflict = false → m.dupRoles = 0 → m.peerFault = true → m.verdict = some (2, 0)) ∧
    (m.conflict = false → m.dupRoles = 0 → m.peerFault = false →
      (m.verdict = none ↔ ∀ r, ¬ wrong r) ∧
      ∀ r, wrong r → (∀ r' : Role, r'.code.toNat < r.code.toNat → ¬ wrong r') →
        m.verdict = some (3, r.code.toNat))

/-! ### The host port -/

/-- Every host command is judged in the order of R178: NOT_READY in START and from a RESET until its reset, then the
mode, then the role; a command so refused changes nothing but the reply shifted out (log 3). A transaction that names no
command is answered BAD_VALUE (log 18), and an abandoned select period changes nothing (R177). -/
def Obligations.HostCommandsAreJudgedInOrder : Prop :=
  (∀ (c : Instr) (s : State) (modes : List Mode), commandModes c = some modes →
    (s.ready = false → exec c s = .next (s.reply .notReady [])) ∧
    (s.ready = true → s.mode ∉ modes → exec c s = .next (s.reply .wrongMode [])) ∧
    (s.ready = true → s.mode ∈ modes → ¬ commandRole c s.role → exec c s = .next (s.reply .wrongRole []))) ∧
  ∀ s : State, (s.ready = true → exec .unknownCommand s = .next (s.reply .badValue [])) ∧
    exec .selectPeriodAbandoned s = .next s

/-- READ_EVENT removes the oldest record and returns it with the number remaining, ATTN falling where none remains; on
an empty queue the reply is EMPTY (R182). -/
def Obligations.EventsAreReadOldestFirst : Prop :=
  ∀ s : State, s.ready = true → s.mode ≠ .strapFault →
    (∀ e rest, s.host.events = e :: rest →
      exec .readEvent s = .next { s with
        host := { s.host with
          events := rest, attn := s.host.attn && !rest.isEmpty
          reply := some { status := .done, bytes := eventBytes e rest.length } } }) ∧
    (s.host.events = [] → exec .readEvent s = .next (s.reply .empty []))

/-- WRITE_CONFIG writes a numeric item within its range, or a watch pattern that reads as one, and refuses every other
value with nothing written (R50, R188; pattern bytes that name nothing are log 16). JOIN with an image that passes the
checks of the role enters MUSTER: the map holds the station alone, the window of 16 periods and the send timer run, and
a MUSTER frame is queued; one that fails names the item (R51, R52; which of two neighbouring pockets is log 39). -/
def Obligations.ConfigIsWrittenAndJoined : Prop :=
  (∀ (index : Byte) (block : BitVec 64) (s : State), s.mode = .config → s.host.resetTaken = false →
    (∀ row, (itemRows s.muster.straps.role)[index.toNat]? = some row →
      exec (.writeConfig index block) s =
        if row.low ≤ blockValue block ∧ blockValue block ≤ row.high then
          .next (({ s with
            image := { s.image with items := s.image.items.set index.toNat (blockValue block) } } : State).reply
            .done [])
        else .next (s.reply .badValue [])) ∧
    (∀ (h : index.toNat - 60 < 8), 60 ≤ index.toNat →
      exec (.writeConfig index block) s =
        match parsePattern block with
        | some p =>
          .next (({ s with
            image := { s.image with
              patterns := s.image.patterns.set ⟨index.toNat - 60, h⟩ p } } : State).reply .done [])
        | none => .next (s.reply .badValue [])) ∧
    (68 ≤ index.toNat → exec (.writeConfig index block) s = .next (s.reply .badValue []))) ∧
  ∀ s : State, s.mode = .config → s.host.resetTaken = false →
    ((s.role.bind s.image.joinFault) = none → s.link.items = [] →
      ∃ t, exec .join s = .next t ∧ t.mode = .muster ∧
        t.muster = { s.muster with
          map := (Eight.const roleNone).set s.own s.muster.straps.role, dupRoles := 0, conflict := false,
          peerFault := false, windowTimer := some (16 * s.period), sendTimer := some s.period } ∧
        t.link.items = [.muster] ∧ SameExcept [.mode, .muster, .link] s t ∧ t.host.reply = bare .done) ∧
    ∀ item, (s.role.bind s.image.joinFault) = some item →
      exec .join s = .next (s.reply .badValue [codeByte item])

/-- STATUS reports the mode, the latched straps, the trip record, the reset causes, the overrun flag and the number of
events, then empties the reset cause set and clears the flag (R180; the newest cause of an empty record is a free value,
log 8; the byte of the overrun flag, 1 for set, is the model's choice, log 53). ACK_ATTN sets the acknowledged mark, and
ATTN falls (R183). SELECT_RECORD sets the selection with the word index at 0 and the change mark clear; READ_WORD then
gives the record's words in turn, CHANGED with word 0 where the record has changed, and EMPTY past the end (R185, R186).
-/
def Obligations.StatusAndRecordsAreRead : Prop :=
  (∀ s : State, s.ready = true →
    (∃ t, exec .status s = .next t ∧ ∃ newest : Byte,
      (∀ e, s.trips.record.getLast? = some e → newest.toNat = e.cause.code) ∧
      t.host = { s.host with
        overrun := false
        reply := some { status := .done, bytes := [codeByte s.mode.code, codeByte s.own.val,
          s.muster.straps.role.setWidth 8, s.muster.straps.period.setWidth 8, codeByte s.trips.record.length,
          codeByte (s.trips.record.filter fun e => e.isLocal && decide (e.cause ≠ .start) && !e.acked).length, newest,
          s.muster.resetCauses.setWidth 8, codeByte (bit s.host.overrun), codeByte s.host.events.length, 0, 0] } } ∧
      t.muster = { s.muster with resetCauses := 0 } ∧ t.segments = s.segments ∧ SameExcept [.muster] s t) ∧
    (s.mode ≠ .strapFault →
      exec .ackAttn s = .next { s with
        host := { s.host with acked := true, attn := false, reply := bare .done } })) ∧
  ∀ s : State, s.ready = true → s.mode ≠ .strapFault →
    (∀ selector : Byte, exec (.selectRecord selector) s =
      if selector.toNat ≤ 20 then
        .next { s with
          host := { s.host with
            selection := some selector.toNat, wordIndex := 0, changeMark := false, reply := bare .done } }
      else .next (s.reply .badValue [])) ∧
    (s.host.selection = none → exec .readWord s = .next (s.reply .empty [])) ∧
    ∀ sel, s.host.selection = some sel →
      (∀ word rest, s.host.changeMark = true → recordWords sel s = word :: rest →
        exec .readWord s = .next { s with
          host := { s.host with
            wordIndex := 1, changeMark := false
            reply := some { status := .changed, bytes := wordBytes word } } }) ∧
      (∀ word, s.host.changeMark = false → (recordWords sel s)[s.host.wordIndex]? = some word →
        exec .readWord s = .next { s with
          host := { s.host with
            wordIndex := s.host.wordIndex + 1
            reply := some { status := .done, bytes := wordBytes word } } }) ∧
      (s.host.changeMark = false → (recordWords sel s).length ≤ s.host.wordIndex →
        exec .readWord s = .next (s.reply .empty []))

/-- The words of the selected records: a claim table position (10-9; the blank byte of word 6 is log 14), the trip
record, the muster record, the lock-turn record, each optional field present or not, the segment engine record, a peer
entry with or without a beacon, and a string record, a copy, or one that is not present (R2, R35, R59, R143, R158, R160,
R185, R187; the forms that R187 leaves open are log 14). -/
def Obligations.RecordsHoldTheirFields : Prop :=
  ∀ (s : State) (words : List Nat → List Word16), words = List.map (BitVec.ofNat 16) →
    (∀ i, i < 8 →
      (s.claims.table[i]? = none → recordWords (9 + i) s = words [i]) ∧
      ∀ e, s.claims.table[i]? = some e →
        recordWords (9 + i) s = words
          [256 + i, 256 * e.tag.station.val + e.tag.seq.toNat, 256 * e.kind.cls.code + e.state.code,
            e.kind.params.toNat, 256 * e.consentSet.toNat + e.grants.toNat,
            256 * e.tag.station.val + (bit e.consent + 2 * bit e.revokeQueued + 4 * bit e.grantWindow.isSome
              + 8 * bit e.releasePending + 16 * bit e.takeQueued), 256 * e.grantWindow.getD 0]) ∧
    recordWords 19 s = words
      ((1 :: s.trips.record.length ::
          s.trips.record.flatMap fun e => [e.origin.val, e.cause.code, bit (!e.isLocal), bit e.acked]) ++
        [bit s.trips.clearRefused, s.trips.safeDownTimer.getD 65535, s.trips.restCount] ++
        s.trips.matchSets.toList.map (·.toNat) ++ [bit s.trips.gated, bit s.trips.stopActive]) ∧
    recordWords 20 s = words
      ([1, s.own.val, s.muster.straps.role.toNat, s.muster.straps.period.toNat] ++
        s.muster.map.toList.map (·.toNat) ++
        [s.muster.dupRoles.toNat, bit s.muster.conflict, bit s.muster.peerFault,
          (s.muster.windowTimer.map fun n => (n + s.period - 1) / s.period).getD 65535]) ∧
    recordWords 18 s =
      words ([1, s.lockTurn.state.code] ++
        (match s.lockTurn.turn with
          | some turn => [32 * turn.tag.station.val + turn.tag.seq.toNat, turn.sec, bit turn.disengage]
          | none => [65535, 65535, 65535]) ++
        [s.lockTurn.angle / 1000 / 65536, s.lockTurn.angle / 1000,
          if s.lockTurn.timerRunning then s.lockTurn.timer else 65535, bit s.lockTurn.armed]) ++
        [BitVec.ofInt 16 (s.lockTurn.turnSpeed.tdiv 1000)] ++
        words [(s.lockTurn.result.map ReleaseResult.code).getD 65535, s.lockTurn.stallCount, bit s.lockTurn.stall] ++
        s.lockTurn.account.words ++
        words [s.lockTurn.reverseAngle / 1000 / 65536, s.lockTurn.reverseAngle / 1000, bit s.lockTurn.unkeyed] ∧
    recordWords 17 s =
      words [1, s.segments.state.code, s.segments.queue.length, s.segments.pointer.getD 65535, bit s.segments.begun] ++
        words (if s.segments.counting then [s.segments.remaining, s.segments.accumulation] else [65535, 65535]) ++
        words [(s.segments.mark.bind (positionIn s.segments.queue)).getD 65535,
          bit (openMark s.segments.queue).isSome] ++
        [s.segments.value.tdiv 1000, s.envelope.low, s.envelope.high, s.envelope.demand.tdiv 1000].map
          (BitVec.ofInt 16) ++
        words [s.segments.demandTimer.getD 65535, s.segments.queue.length] ++ s.segments.queue.flatMap Segment.words ∧
    (∀ (target : Int) (rate count base : Nat) (current : Option Nat) (done : Bool),
      Segment.words ⟨.ramp target rate, done⟩ =
        words [0] ++ [BitVec.ofInt 16 target] ++ words [rate, 65535, 65535, 65535, bit done] ∧
      Segment.words ⟨.level target count, done⟩ =
        words [1] ++ [BitVec.ofInt 16 target] ++ words [65535, count, 65535, 65535, bit done] ∧
      Segment.words ⟨.dwell count, done⟩ = words [2, 65535, 65535, count, 65535, 65535, bit done] ∧
      Segment.words ⟨.mark, done⟩ = words [3, 65535, 65535, 65535, 65535, 65535, bit done] ∧
      Segment.words ⟨.again base current, done⟩ =
        words [4, 65535, 65535, 65535, base, current.getD 65535, bit done]) ∧
    (∀ i : Station, (s.peers.get i).beacon = none →
      recordWords i.val s = words
        ([1, (s.peers.get i).admission.code, (s.peers.get i).role.toNat] ++ List.replicate 24 65535 ++
          [((s.peers.get i).lastSeq.map (·.toNat)).getD 65535, (s.peers.get i).silence,
            ((s.peers.get i).parkMask.map (·.toNat)).getD 65535, bit (s.peers.get i).unadmitted,
            (s.peers.get i).divergence])) ∧
    (∀ (i : Station) (b : BeaconRecord), (s.peers.get i).beacon = some b →
      recordWords i.val s =
        words [1, (s.peers.get i).admission.code, (s.peers.get i).role.toNat, i.val, b.role.toNat, b.mode.toNat,
            b.seq.toNat] ++
          [BitVec.ofInt 16 b.primary, BitVec.ofInt 16 b.secondary,
            (BitVec.ofInt 32 b.position).extractLsb' 16 16, (BitVec.ofInt 32 b.position).extractLsb' 0 16,
            BitVec.ofInt 16 b.output] ++
          words ([bit b.atRest, bit b.stall, bit b.unkeyed, bit b.clearRefused, bit b.gated] ++
            b.map.toList.map (·.toNat) ++ [(b.generation.map (·.toNat)).getD 65535, b.tags.length] ++
            b.tags.map (fun t => 32 * t.station.val + t.seq.toNat) ++
            [((s.peers.get i).lastSeq.map (·.toNat)).getD 65535, (s.peers.get i).silence,
              ((s.peers.get i).parkMask.map (·.toNat)).getD 65535, bit (s.peers.get i).unadmitted,
              (s.peers.get i).divergence])) ∧
    (s.isRole .hoist = true ∧ s.strings.record = none ∨ s.isRole .hoist = false ∧ s.strings.copy = none →
      recordWords 8 s = words [0]) ∧
    (∀ r, s.isRole .hoist = true → s.strings.record = some r →
      recordWords 8 s =
        words [1, r.generation.toNat, r.count, r.sections.length] ++
          (r.sections.flatMap fun e =>
            words [e.lock.code, e.lock.pocket.getD 65535] ++ [BitVec.ofInt 16 e.ext]) ++
          ([r.total, r.slack].flatMap fun v =>
            [(BitVec.ofInt 32 v).extractLsb' 16 16, (BitVec.ofInt 32 v).extractLsb' 0 16]) ++
          words [bit (!r.loadComplete), bit (!r.certain)] ++
          [(BitVec.ofInt 32 r.depth).extractLsb' 16 16, (BitVec.ofInt 32 r.depth).extractLsb' 0 16]) ∧
    ∀ g, s.isRole .hoist = false → s.strings.copy = some g →
      recordWords 8 s =
        words ([1, g.generation.toNat, g.count, g.sections.length] ++
          (g.sections.flatMap fun e => [e.lock.toNat, if e.lock = 2 then e.pocket.toNat else 65535, e.ext])) ++
          ([(g.total : Int), (g.slack : Int)].flatMap fun v =>
            [(BitVec.ofInt 32 v).extractLsb' 16 16, (BitVec.ofInt 32 v).extractLsb' 0 16]) ++
          words [bit (!g.loadComplete), bit (!g.certain)] ++
          [(BitVec.ofInt 32 g.depth).extractLsb' 16 16, (BitVec.ofInt 32 g.depth).extractLsb' 0 16]

/-- PUT_SEGMENT places a segment of valid values at the tail while fewer than 16 stand there, adds a DWELL to a DWELL at
the tail, and refuses a field out of its range, a MARK while one is open and a REPEAT with none open or with the open
MARK at the tail (R123 to R126). FLUSH_SEGMENTS empties the queue and leaves the value where it stands; its reply and
SEGMENTS_FLUSHED, for a queue that held any, carry the number flushed, and QUEUE_EMPTY follows where the starvation
conditions begin (R138, R140). -/
def Obligations.SegmentsArePlacedAndFlushed : Prop :=
  (∀ (role : RoleCode) (low high : Int) (kind : Byte) (target rate count : Word16) (base : Byte),
    (role, low, high) ∈ [(Role.hoist.code, -1500, 1500), (Role.crowd.code, -400, 800), (Role.rotary.code, -300, 300),
      (Role.casing.code, -200, 200)] →
    parseSegment role kind target rate count base =
      match kind.toNat with
      | 0 => if low ≤ target.toInt ∧ target.toInt ≤ high ∧ rate ≠ 0 then some (.ramp target.toInt rate.toNat) else none
      | 1 =>
        if low ≤ target.toInt ∧ target.toInt ≤ high ∧ count ≠ 0 then some (.level target.toInt count.toNat) else none
      | 2 => if count ≠ 0 then some (.dwell count.toNat) else none
      | 3 => some .mark
      | 4 => if base ≠ 0 then some (.again base.toNat none) else none
      | _ => none) ∧
  (∀ (e : SegmentEngine) (opened : Prop),
    (opened ↔ ∃ (i : Nat) (x : Segment), e.queue[i]? = some x ∧ x.body = .mark ∧
      ∀ (j : Nat) (y : Segment), i < j → e.queue[j]? = some y → ∀ base current, y.body ≠ .again base current) →
    (e.badSequence .mark = true ↔ opened) ∧
    (∀ base current, e.badSequence (.again base current) = true ↔
      ¬ opened ∨ ∃ x, e.queue.getLast? = some x ∧ x.body = .mark) ∧
    ∀ b, b.timed = true → e.badSequence b = false) ∧
  (∀ (kind : Byte) (target rate count : Word16) (base : Byte) (s : State), s.ready = true →
    s.mode ∈ [Mode.safed, .run, .parked] → s.isRole .panel = false →
    (parseSegment s.muster.straps.role kind target rate count base = none →
      exec (.putSegment kind target rate count base) s = .next (s.reply .badValue [])) ∧
    ∀ b, parseSegment s.muster.straps.role kind target rate count base = some b →
      (s.segments.badSequence b = true →
        exec (.putSegment kind target rate count base) s =
          .next (s.reply .refusedLocal [codeByte LocalReason.badSequence.code])) ∧
      (s.segments.badSequence b = false → (∀ n, b ≠ .dwell n) ∨ s.segments.tailDwell = none →
        (s.segments.queue.length < 16 →
          ∃ t, exec (.putSegment kind target rate count base) s = .next t ∧
            t.segments.queue = s.segments.queue ++ [{ body := b, completed := false }] ∧
            t.segments.pointer = s.segments.pointer.or (some s.segments.queue.length) ∧
            t.segments.value = s.segments.value ∧ t.segments.state = s.segments.state ∧
            SameExcept [.segments] s t ∧
            Ends [] [] (some { status := .done, bytes := [codeByte (s.segments.queue.length + 1), 0, 0] }) s t) ∧
        (16 ≤ s.segments.queue.length →
          exec (.putSegment kind target rate count base) s = .next (s.reply .queueFull []))) ∧
      ∀ n c, b = .dwell n → s.segments.tailDwell = some c →
        ∃ t, exec (.putSegment kind target rate count base) s = .next t ∧
          t.segments.queue.length = s.segments.queue.length ∧ t.segments.tailDwell = some (min (c + n) 65535) ∧
          t.segments.queue.dropLast = s.segments.queue.dropLast ∧ t.segments.pointer = s.segments.pointer ∧
          t.segments.remaining =
            (if s.segments.begun = true ∧ s.segments.pointer = some (s.segments.queue.length - 1) then
              min (s.segments.remaining + n) 65535
            else s.segments.remaining) ∧
          SameExcept [.segments] s t ∧
          t.host.reply = some
            { status := .merged
              bytes := codeByte s.segments.queue.length :: wordBytes (BitVec.ofNat 16 (min (c + n) 65535)) }) ∧
  ∀ s : State, s.ready = true → s.mode ∈ [Mode.safed, .run, .parked] → s.isRole .panel = false →
    ∃ t, exec .flushSegments s = .next t ∧
      { t.segments with demandTimer := none } =
        { s.segments with
          queue := [], pointer := none, begun := false, remaining := 0, accumulation := 0, mark := none
          demandTimer := none } ∧
      SameExcept [.segments] s t ∧
      Ends ((if s.segments.queue = [] then []
          else [Event.of .segmentsFlushed (aux := 0) (value := s.segments.queue.length)]) ++
        (if s.starved = false ∧ t.starved = true then [Event.of .queueEmpty (tag := s.ownHeld.map (·.tag))] else []))
        [17]
        (some { status := .done, bytes := [codeByte s.segments.queue.length] }) s t

/-- REQUEST_CLAIM queues a CLAIM frame under a fresh tag where every local check passes, and answers with the tag; the
table waits for the frame's taking. The checks in order: ROLE, CONFLICT with a live entry or a queued CLAIM, GATED,
MEMBER_NOT_FRESH, MEMBER_PARKED, LOAD_PATH. A check that fails, a parameter out of range and a full queue queue nothing
(R76 to R78; unused parameter bits and a direction byte above 1 are log 15). END_CLAIM of an own live entry queues its
RELEASE, COMPLETE where the entry is HELD and CANCELLED otherwise, and withdraws a TAKE that waits for it; of any other
tag it is answered BAD_VALUE (R89). -/
def Obligations.ClaimsAreRequestedAndEnded : Prop :=
  (∀ (s : State) (kind : ClaimKind) (stale parked : Bool),
    (stale = true ↔ ∃ i : Station, inMask (consentSetOf s.muster.map kind.cls) i = true ∧
      (s.peers.get i).admission ≠ .fresh) →
    (parked = true ↔ ∃ (i : Station) (b : BeaconRecord), inMask (consentSetOf s.muster.map kind.cls) i = true ∧
      (s.peers.get i).beacon = some b ∧ b.mode.toNat = Mode.parked.code ∧
      ∀ mask, (s.peers.get i).parkMask = some mask → inClassMask mask kind.cls = false) →
    s.localRefusal kind =
      if s.role ≠ some kind.cls.originator then some .role
      else if (∃ e ∈ s.claims.table, compatible e.kind kind = false) ∨
        (∃ q ∈ s.link.queuedClaims, compatible q.2 kind = false) then some .conflict
      else if s.trips.gated = true then some .gated
      else if stale = true then some .memberNotFresh
      else if parked = true then some .memberParked
      else if kind.cls = .crowdLoad ∧ s.loadPathComplete = false then some .loadPath
      else none) ∧
  (∀ (cls : Byte) (params : Word16) (s : State), s.mode = .run → s.host.resetTaken = false →
    (ClaimKind.parse cls params = none → exec (.requestClaim cls params) s = .next (s.reply .badValue [])) ∧
    ∀ kind, ClaimKind.parse cls params = some kind →
      (∀ why, s.localRefusal kind = some why →
        exec (.requestClaim cls params) s = .next (s.reply .refusedLocal [codeByte why.code])) ∧
      (s.localRefusal kind = none → 12 ≤ s.link.count →
        exec (.requestClaim cls params) s = .next (s.reply .queueFull [])) ∧
      (s.localRefusal kind = none → s.link.count < 12 → s.claims.table.length ≤ 8 →
        ∃ t, exec (.requestClaim cls params) s = .next t ∧ ∃ tag : Tag, tag.station = s.own ∧
          tag ∉ s.claims.liveTags ∧ tag ∉ s.link.queuedClaims.map (·.1) ∧
          t.link = s.link.insert (.claim tag kind) ∧ t.claims = { s.claims with ownSeq := tag.seq } ∧
          SameExcept [.claims, .link] s t ∧
          Ends [] [] (some { status := .done, bytes := [Tag.byte tag] }) s t)) ∧
  ∀ (byte : Byte) (s : State), s.mode = .run → s.host.resetTaken = false →
    ((∀ e ∈ s.claims.table, e.tag = Tag.ofByte byte → e.isOwn s.own = false) →
      exec (.endClaim byte) s = .next (s.reply .badValue [])) ∧
    ∀ e, s.claims.find (Tag.ofByte byte) = some e → e.isOwn s.own = true →
      (e.releasePending = false → s.link.count < 12 → s.link.waits (.take e.tag) = false →
        ∃ t, exec (.endClaim byte) s = .next t ∧
          t.link = s.link.insert (.release e.tag (if e.state = .held then .complete else .cancelled)) ∧
          t.claims = { s.claims with
            table := s.claims.table.map fun x => if x.tag = e.tag then { x with releasePending := true } else x } ∧
          SameExcept [.claims, .link] s t ∧ Ends [] [] (bare .done) s t) ∧
      (e.releasePending = false → s.link.count ≤ 12 → s.link.waits (.take e.tag) = true →
        ∃ t, exec (.endClaim byte) s = .next t ∧
          t.link = (s.link.withdraw (decide <| · = .take e.tag)).insert
            (.release e.tag (if e.state = .held then .complete else .cancelled)) ∧
          t.link.waits (.take e.tag) = false ∧
          t.claims = { s.claims with
            table := s.claims.table.map fun x =>
              if x.tag = e.tag then { x with releasePending := true, takeQueued := false } else x } ∧
          SameExcept [.claims, .link] s t ∧ Ends [] [] (bare .done) s t) ∧
      (e.releasePending = true →
        ∃ t, exec (.endClaim byte) s = .next t ∧ SameExcept [] s t ∧ Ends [] [] (bare .done) s t)

/-- SET_OPERATOR sets PANEL's enable set and dead-man state whole, and revokes for OPERATOR each consent whose class is
no longer enabled, or each one where the dead-man is released (R102), the REVOKEs queued in the order of the claim table
(the model's choice, log 49). A mask or dead-man byte that names nothing is answered BAD_VALUE (the dead-man byte's
values are log 16). SEND_CLEAR queues one CLEAR frame at PANEL; ACK_TRIP acknowledges every local entry but START and
answers with their number (R170). -/
def Obligations.OperatorCommandsAct : Prop :=
  (∀ (mask deadMan : Byte) (s : State), s.mode.beaconing = true → s.host.resetTaken = false →
    s.isRole .panel = true →
    (64 ≤ mask.toNat ∨ 2 ≤ deadMan.toNat → exec (.setOperator mask deadMan) s = .next (s.reply .badValue [])) ∧
    (mask.toNat < 64 → deadMan.toNat < 2 → ClaimSound s → s.link.count + s.claims.table.length ≤ 12 →
      ∀ taken : ClaimEntry → Bool,
        (∀ e, taken e = (e.consent && (decide (deadMan = 0) || !inClassMask mask e.kind.cls))) →
        ∃ t, exec (.setOperator mask deadMan) s = .next t ∧
          t.envelope = { s.envelope with enableSet := mask, deadManHeld := decide (deadMan = 1) } ∧
          t.claims = { s.claims with
            table := s.claims.table.map fun e => { e with revokeQueued := e.revokeQueued || taken e } } ∧
          t.link = (s.claims.table.filter fun e => taken e && !e.revokeQueued).foldl
            (fun l e => l.insert (.revoke e.tag .operator)) s.link ∧
          SameExcept [.envelope, .link, .claims] s t ∧ Ends [] [] (bare .done) s t)) ∧
  ∀ s : State, s.mode.beaconing = true → s.host.resetTaken = false →
    (s.isRole .panel = true → s.link.holdsKind .clear = true →
      exec .sendClear s = .next (s.reply .done [])) ∧
    (s.isRole .panel = true → s.link.holdsKind .clear = false → 12 ≤ s.link.count →
      exec .sendClear s = .next (s.reply .queueFull [])) ∧
    (s.isRole .panel = true → s.link.holdsKind .clear = false → s.link.count < 12 →
      ∃ t, exec .sendClear s = .next t ∧ t.link = s.link.insert .clear ∧ SameExcept [.link] s t ∧
        Ends [] [] (bare .done) s t) ∧
    ∃ t, exec .ackTrip s = .next t ∧
      t.trips = { s.trips with
        record := s.trips.record.map fun e =>
          if e.isLocal = true ∧ e.cause ≠ .start then { e with acked := true } else e } ∧
      SameExcept [.trips] s t ∧
      Ends [] [] (some { status := .done, bytes := [codeByte
        (s.trips.record.filter fun e => e.isLocal && decide (e.cause ≠ .start) && !e.acked).length] }) s t

/-- A peer's PARK frame is stored in the entry of a peer AWAITING, FRESH or STALE; from an ABSENT one it is stray, and a
LOST or FOREIGN one's is ignored (R70). PARK by a station with no own claim, no consent and its demand at rest enters
PARKED, stores its mask, sets the brake and queues a PARK frame; a check that fails is answered with its reason. UNPARK
returns to RUN and the mask is dropped (R120, R121). -/
def Obligations.ParkAndUnpark : Prop :=
  (∀ (sender : Station) (mask : Byte) (s : State), s.hears sender → mask.toNat < 64 →
    ((s.peers.get sender).admission.member = true →
      ∃ t, exec (.parkFrame sender mask) s = .next t ∧
        t.peers = s.peers.set sender { s.peers.get sender with parkMask := some mask } ∧
        SameExcept [.peers] s t ∧ Ends [] [sender.val] s.host.reply s t) ∧
    ((s.peers.get sender).admission = .absent →
      ∃ t, exec (.parkFrame sender mask) s = .next t ∧ SameExcept [] s t ∧
        Ends [Event.of .strayFrame (station := some sender) (code := FrameKind.park.code)] [] s.host.reply s t) ∧
    ((s.peers.get sender).admission = .lost ∨ (s.peers.get sender).admission = .foreign →
      ∃ t, exec (.parkFrame sender mask) s = .next t ∧ SameExcept [] s t ∧ Ends [] [] s.host.reply s t)) ∧
  ∀ s : State, s.host.resetTaken = false →
    (∀ mask : Byte, s.mode = .run →
      (64 ≤ mask.toNat → exec (.park mask) s = .next (s.reply .badValue [])) ∧
      (mask.toNat < 64 →
        ((s.claims.table.any fun e => e.isOwn s.own) = true ∨ s.link.queuedClaims ≠ [] →
          exec (.park mask) s = .next (s.reply .refusedLocal [codeByte LocalReason.claimsLive.code])) ∧
        ((s.claims.table.any fun e => e.isOwn s.own) = false → s.link.queuedClaims = [] →
          ((s.claims.table.any fun e => e.consent) = true →
            exec (.park mask) s = .next (s.reply .refusedLocal [codeByte LocalReason.consentHeld.code])) ∧
          ((s.claims.table.any fun e => e.consent) = false → s.envelope.demand ≠ 0 →
            exec (.park mask) s = .next (s.reply .refusedLocal [codeByte LocalReason.notAtRest.code])) ∧
          ((s.claims.table.any fun e => e.consent) = false → s.envelope.demand = 0 → 12 ≤ s.link.count →
            exec (.park mask) s = .next (s.reply .queueFull [])) ∧
          ((s.claims.table.any fun e => e.consent) = false → s.envelope.demand = 0 → s.link.count < 12 →
            ∃ t, exec (.park mask) s = .next t ∧ t.mode = .parked ∧
              t.axis = { s.axis with brakeSet := true, valve := 0 } ∧
              t.trips = { s.trips with ownParkMask := some mask } ∧ t.link = s.link.insert (.park mask) ∧
              SameExcept [.mode, .axis, .trips, .link] s t ∧ Ends [Event.of .parked] [] (bare .done) s t)))) ∧
    (s.mode = .parked →
      ∃ t, exec .unpark s = .next t ∧ t.mode = .run ∧ t.trips = { s.trips with ownParkMask := none } ∧
        SameExcept [.mode, .trips] s t ∧ Ends [Event.of .unparked] [] (bare .done) s t)
end

