-- ==== Sys2Proof/Laws/State.lean ====
section
/-! SUPPORT. One lemma for each field and each named update, all true by definition, so that no later proof unfolds a
record update; and the same for the reply and the end of a command. -/

namespace Sys2Proof.Machine

namespace Work

/-! ### setMode -/

@[simp] theorem setMode_mode (m : Mode) (w : Work) : (w.setMode m).mode = m := rfl
@[simp] theorem setMode_image (m : Mode) (w : Work) : (w.setMode m).image = w.image := rfl
@[simp] theorem setMode_muster (m : Mode) (w : Work) : (w.setMode m).muster = w.muster := rfl
@[simp] theorem setMode_link (m : Mode) (w : Work) : (w.setMode m).link = w.link := rfl
@[simp] theorem setMode_peers (m : Mode) (w : Work) : (w.setMode m).peers = w.peers := rfl
@[simp] theorem setMode_claims (m : Mode) (w : Work) : (w.setMode m).claims = w.claims := rfl
@[simp] theorem setMode_strings (m : Mode) (w : Work) : (w.setMode m).strings = w.strings := rfl
@[simp] theorem setMode_envelope (m : Mode) (w : Work) : (w.setMode m).envelope = w.envelope := rfl
@[simp] theorem setMode_segments (m : Mode) (w : Work) : (w.setMode m).segments = w.segments := rfl
@[simp] theorem setMode_lockTurn (m : Mode) (w : Work) : (w.setMode m).lockTurn = w.lockTurn := rfl
@[simp] theorem setMode_trips (m : Mode) (w : Work) : (w.setMode m).trips = w.trips := rfl
@[simp] theorem setMode_axis (m : Mode) (w : Work) : (w.setMode m).axis = w.axis := rfl
@[simp] theorem setMode_host (m : Mode) (w : Work) : (w.setMode m).host = w.host := rfl
@[simp] theorem setMode_stamp (m : Mode) (w : Work) : (w.setMode m).stamp = w.stamp := rfl
@[simp] theorem setMode_freeCount (m : Mode) (w : Work) : (w.setMode m).freeCount = w.freeCount := rfl
@[simp] theorem setMode_pending (m : Mode) (w : Work) : (w.setMode m).pending = w.pending := rfl
@[simp] theorem setMode_posts (m : Mode) (w : Work) : (w.setMode m).posts = w.posts := rfl
@[simp] theorem setMode_raised (m : Mode) (w : Work) : (w.setMode m).raised = w.raised := rfl
@[simp] theorem setMode_touched (m : Mode) (w : Work) : (w.setMode m).touched = w.touched := rfl

/-! ### onMuster -/

@[simp] theorem onMuster_mode (f : MusterUnit → MusterUnit) (w : Work) : (w.onMuster f).mode = w.mode := rfl
@[simp] theorem onMuster_image (f : MusterUnit → MusterUnit) (w : Work) : (w.onMuster f).image = w.image := rfl
@[simp] theorem onMuster_muster (f : MusterUnit → MusterUnit) (w : Work) : (w.onMuster f).muster = f w.muster := rfl
@[simp] theorem onMuster_link (f : MusterUnit → MusterUnit) (w : Work) : (w.onMuster f).link = w.link := rfl
@[simp] theorem onMuster_peers (f : MusterUnit → MusterUnit) (w : Work) : (w.onMuster f).peers = w.peers := rfl
@[simp] theorem onMuster_claims (f : MusterUnit → MusterUnit) (w : Work) : (w.onMuster f).claims = w.claims := rfl
@[simp] theorem onMuster_strings (f : MusterUnit → MusterUnit) (w : Work) : (w.onMuster f).strings = w.strings := rfl
@[simp] theorem onMuster_envelope (f : MusterUnit → MusterUnit) (w : Work) :
    (w.onMuster f).envelope = w.envelope := rfl
@[simp] theorem onMuster_segments (f : MusterUnit → MusterUnit) (w : Work) :
    (w.onMuster f).segments = w.segments := rfl
@[simp] theorem onMuster_lockTurn (f : MusterUnit → MusterUnit) (w : Work) :
    (w.onMuster f).lockTurn = w.lockTurn := rfl
@[simp] theorem onMuster_trips (f : MusterUnit → MusterUnit) (w : Work) : (w.onMuster f).trips = w.trips := rfl
@[simp] theorem onMuster_axis (f : MusterUnit → MusterUnit) (w : Work) : (w.onMuster f).axis = w.axis := rfl
@[simp] theorem onMuster_host (f : MusterUnit → MusterUnit) (w : Work) : (w.onMuster f).host = w.host := rfl
@[simp] theorem onMuster_stamp (f : MusterUnit → MusterUnit) (w : Work) : (w.onMuster f).stamp = w.stamp := rfl
@[simp] theorem onMuster_freeCount (f : MusterUnit → MusterUnit) (w : Work) :
    (w.onMuster f).freeCount = w.freeCount := rfl
@[simp] theorem onMuster_pending (f : MusterUnit → MusterUnit) (w : Work) : (w.onMuster f).pending = w.pending := rfl
@[simp] theorem onMuster_posts (f : MusterUnit → MusterUnit) (w : Work) : (w.onMuster f).posts = w.posts := rfl
@[simp] theorem onMuster_raised (f : MusterUnit → MusterUnit) (w : Work) : (w.onMuster f).raised = w.raised := rfl
@[simp] theorem onMuster_touched (f : MusterUnit → MusterUnit) (w : Work) : (w.onMuster f).touched = w.touched := rfl

/-! ### onLink -/

@[simp] theorem onLink_mode (f : LinkController → LinkController) (w : Work) : (w.onLink f).mode = w.mode := rfl
@[simp] theorem onLink_image (f : LinkController → LinkController) (w : Work) : (w.onLink f).image = w.image := rfl
@[simp] theorem onLink_muster (f : LinkController → LinkController) (w : Work) : (w.onLink f).muster = w.muster := rfl
@[simp] theorem onLink_link (f : LinkController → LinkController) (w : Work) : (w.onLink f).link = f w.link := rfl
@[simp] theorem onLink_peers (f : LinkController → LinkController) (w : Work) : (w.onLink f).peers = w.peers := rfl
@[simp] theorem onLink_claims (f : LinkController → LinkController) (w : Work) : (w.onLink f).claims = w.claims := rfl
@[simp] theorem onLink_strings (f : LinkController → LinkController) (w : Work) :
    (w.onLink f).strings = w.strings := rfl
@[simp] theorem onLink_envelope (f : LinkController → LinkController) (w : Work) :
    (w.onLink f).envelope = w.envelope := rfl
@[simp] theorem onLink_segments (f : LinkController → LinkController) (w : Work) :
    (w.onLink f).segments = w.segments := rfl
@[simp] theorem onLink_lockTurn (f : LinkController → LinkController) (w : Work) :
    (w.onLink f).lockTurn = w.lockTurn := rfl
@[simp] theorem onLink_trips (f : LinkController → LinkController) (w : Work) : (w.onLink f).trips = w.trips := rfl
@[simp] theorem onLink_axis (f : LinkController → LinkController) (w : Work) : (w.onLink f).axis = w.axis := rfl
@[simp] theorem onLink_host (f : LinkController → LinkController) (w : Work) : (w.onLink f).host = w.host := rfl
@[simp] theorem onLink_stamp (f : LinkController → LinkController) (w : Work) : (w.onLink f).stamp = w.stamp := rfl
@[simp] theorem onLink_freeCount (f : LinkController → LinkController) (w : Work) :
    (w.onLink f).freeCount = w.freeCount := rfl
@[simp] theorem onLink_pending (f : LinkController → LinkController) (w : Work) :
    (w.onLink f).pending = w.pending := rfl
@[simp] theorem onLink_posts (f : LinkController → LinkController) (w : Work) : (w.onLink f).posts = w.posts := rfl
@[simp] theorem onLink_raised (f : LinkController → LinkController) (w : Work) : (w.onLink f).raised = w.raised := rfl
@[simp] theorem onLink_touched (f : LinkController → LinkController) (w : Work) :
    (w.onLink f).touched = w.touched := rfl

/-! ### onPeers -/

@[simp] theorem onPeers_mode (f : Eight PeerEntry → Eight PeerEntry) (w : Work) : (w.onPeers f).mode = w.mode := rfl
@[simp] theorem onPeers_image (f : Eight PeerEntry → Eight PeerEntry) (w : Work) :
    (w.onPeers f).image = w.image := rfl
@[simp] theorem onPeers_muster (f : Eight PeerEntry → Eight PeerEntry) (w : Work) :
    (w.onPeers f).muster = w.muster := rfl
@[simp] theorem onPeers_link (f : Eight PeerEntry → Eight PeerEntry) (w : Work) : (w.onPeers f).link = w.link := rfl
@[simp] theorem onPeers_peers (f : Eight PeerEntry → Eight PeerEntry) (w : Work) :
    (w.onPeers f).peers = f w.peers := rfl
@[simp] theorem onPeers_claims (f : Eight PeerEntry → Eight PeerEntry) (w : Work) :
    (w.onPeers f).claims = w.claims := rfl
@[simp] theorem onPeers_strings (f : Eight PeerEntry → Eight PeerEntry) (w : Work) :
    (w.onPeers f).strings = w.strings := rfl
@[simp] theorem onPeers_envelope (f : Eight PeerEntry → Eight PeerEntry) (w : Work) :
    (w.onPeers f).envelope = w.envelope := rfl
@[simp] theorem onPeers_segments (f : Eight PeerEntry → Eight PeerEntry) (w : Work) :
    (w.onPeers f).segments = w.segments := rfl
@[simp] theorem onPeers_lockTurn (f : Eight PeerEntry → Eight PeerEntry) (w : Work) :
    (w.onPeers f).lockTurn = w.lockTurn := rfl
@[simp] theorem onPeers_trips (f : Eight PeerEntry → Eight PeerEntry) (w : Work) :
    (w.onPeers f).trips = w.trips := rfl
@[simp] theorem onPeers_axis (f : Eight PeerEntry → Eight PeerEntry) (w : Work) : (w.onPeers f).axis = w.axis := rfl
@[simp] theorem onPeers_host (f : Eight PeerEntry → Eight PeerEntry) (w : Work) : (w.onPeers f).host = w.host := rfl
@[simp] theorem onPeers_stamp (f : Eight PeerEntry → Eight PeerEntry) (w : Work) :
    (w.onPeers f).stamp = w.stamp := rfl
@[simp] theorem onPeers_freeCount (f : Eight PeerEntry → Eight PeerEntry) (w : Work) :
    (w.onPeers f).freeCount = w.freeCount := rfl
@[simp] theorem onPeers_pending (f : Eight PeerEntry → Eight PeerEntry) (w : Work) :
    (w.onPeers f).pending = w.pending := rfl
@[simp] theorem onPeers_posts (f : Eight PeerEntry → Eight PeerEntry) (w : Work) :
    (w.onPeers f).posts = w.posts := rfl
@[simp] theorem onPeers_raised (f : Eight PeerEntry → Eight PeerEntry) (w : Work) :
    (w.onPeers f).raised = w.raised := rfl
@[simp] theorem onPeers_touched (f : Eight PeerEntry → Eight PeerEntry) (w : Work) :
    (w.onPeers f).touched = w.touched := rfl

/-! ### onClaims -/

@[simp] theorem onClaims_mode (f : ClaimEngine → ClaimEngine) (w : Work) : (w.onClaims f).mode = w.mode := rfl
@[simp] theorem onClaims_image (f : ClaimEngine → ClaimEngine) (w : Work) : (w.onClaims f).image = w.image := rfl
@[simp] theorem onClaims_muster (f : ClaimEngine → ClaimEngine) (w : Work) : (w.onClaims f).muster = w.muster := rfl
@[simp] theorem onClaims_link (f : ClaimEngine → ClaimEngine) (w : Work) : (w.onClaims f).link = w.link := rfl
@[simp] theorem onClaims_peers (f : ClaimEngine → ClaimEngine) (w : Work) : (w.onClaims f).peers = w.peers := rfl
@[simp] theorem onClaims_claims (f : ClaimEngine → ClaimEngine) (w : Work) : (w.onClaims f).claims = f w.claims := rfl
@[simp] theorem onClaims_strings (f : ClaimEngine → ClaimEngine) (w : Work) :
    (w.onClaims f).strings = w.strings := rfl
@[simp] theorem onClaims_envelope (f : ClaimEngine → ClaimEngine) (w : Work) :
    (w.onClaims f).envelope = w.envelope := rfl
@[simp] theorem onClaims_segments (f : ClaimEngine → ClaimEngine) (w : Work) :
    (w.onClaims f).segments = w.segments := rfl
@[simp] theorem onClaims_lockTurn (f : ClaimEngine → ClaimEngine) (w : Work) :
    (w.onClaims f).lockTurn = w.lockTurn := rfl
@[simp] theorem onClaims_trips (f : ClaimEngine → ClaimEngine) (w : Work) : (w.onClaims f).trips = w.trips := rfl
@[simp] theorem onClaims_axis (f : ClaimEngine → ClaimEngine) (w : Work) : (w.onClaims f).axis = w.axis := rfl
@[simp] theorem onClaims_host (f : ClaimEngine → ClaimEngine) (w : Work) : (w.onClaims f).host = w.host := rfl
@[simp] theorem onClaims_stamp (f : ClaimEngine → ClaimEngine) (w : Work) : (w.onClaims f).stamp = w.stamp := rfl
@[simp] theorem onClaims_freeCount (f : ClaimEngine → ClaimEngine) (w : Work) :
    (w.onClaims f).freeCount = w.freeCount := rfl
@[simp] theorem onClaims_pending (f : ClaimEngine → ClaimEngine) (w : Work) :
    (w.onClaims f).pending = w.pending := rfl
@[simp] theorem onClaims_posts (f : ClaimEngine → ClaimEngine) (w : Work) : (w.onClaims f).posts = w.posts := rfl
@[simp] theorem onClaims_raised (f : ClaimEngine → ClaimEngine) (w : Work) : (w.onClaims f).raised = w.raised := rfl
@[simp] theorem onClaims_touched (f : ClaimEngine → ClaimEngine) (w : Work) :
    (w.onClaims f).touched = w.touched := rfl

/-! ### onStrings -/

@[simp] theorem onStrings_mode (f : StringTracker → StringTracker) (w : Work) : (w.onStrings f).mode = w.mode := rfl
@[simp] theorem onStrings_image (f : StringTracker → StringTracker) (w : Work) :
    (w.onStrings f).image = w.image := rfl
@[simp] theorem onStrings_muster (f : StringTracker → StringTracker) (w : Work) :
    (w.onStrings f).muster = w.muster := rfl
@[simp] theorem onStrings_link (f : StringTracker → StringTracker) (w : Work) : (w.onStrings f).link = w.link := rfl
@[simp] theorem onStrings_peers (f : StringTracker → StringTracker) (w : Work) :
    (w.onStrings f).peers = w.peers := rfl
@[simp] theorem onStrings_claims (f : StringTracker → StringTracker) (w : Work) :
    (w.onStrings f).claims = w.claims := rfl
@[simp] theorem onStrings_strings (f : StringTracker → StringTracker) (w : Work) :
    (w.onStrings f).strings = f w.strings := rfl
@[simp] theorem onStrings_envelope (f : StringTracker → StringTracker) (w : Work) :
    (w.onStrings f).envelope = w.envelope := rfl
@[simp] theorem onStrings_segments (f : StringTracker → StringTracker) (w : Work) :
    (w.onStrings f).segments = w.segments := rfl
@[simp] theorem onStrings_lockTurn (f : StringTracker → StringTracker) (w : Work) :
    (w.onStrings f).lockTurn = w.lockTurn := rfl
@[simp] theorem onStrings_trips (f : StringTracker → StringTracker) (w : Work) :
    (w.onStrings f).trips = w.trips := rfl
@[simp] theorem onStrings_axis (f : StringTracker → StringTracker) (w : Work) : (w.onStrings f).axis = w.axis := rfl
@[simp] theorem onStrings_host (f : StringTracker → StringTracker) (w : Work) : (w.onStrings f).host = w.host := rfl
@[simp] theorem onStrings_stamp (f : StringTracker → StringTracker) (w : Work) :
    (w.onStrings f).stamp = w.stamp := rfl
@[simp] theorem onStrings_freeCount (f : StringTracker → StringTracker) (w : Work) :
    (w.onStrings f).freeCount = w.freeCount := rfl
@[simp] theorem onStrings_pending (f : StringTracker → StringTracker) (w : Work) :
    (w.onStrings f).pending = w.pending := rfl
@[simp] theorem onStrings_posts (f : StringTracker → StringTracker) (w : Work) :
    (w.onStrings f).posts = w.posts := rfl
@[simp] theorem onStrings_raised (f : StringTracker → StringTracker) (w : Work) :
    (w.onStrings f).raised = w.raised := rfl
@[simp] theorem onStrings_touched (f : StringTracker → StringTracker) (w : Work) :
    (w.onStrings f).touched = w.touched := rfl

/-! ### onEnvelope -/

@[simp] theorem onEnvelope_mode (f : EnvelopeUnit → EnvelopeUnit) (w : Work) : (w.onEnvelope f).mode = w.mode := rfl
@[simp] theorem onEnvelope_image (f : EnvelopeUnit → EnvelopeUnit) (w : Work) :
    (w.onEnvelope f).image = w.image := rfl
@[simp] theorem onEnvelope_muster (f : EnvelopeUnit → EnvelopeUnit) (w : Work) :
    (w.onEnvelope f).muster = w.muster := rfl
@[simp] theorem onEnvelope_link (f : EnvelopeUnit → EnvelopeUnit) (w : Work) : (w.onEnvelope f).link = w.link := rfl
@[simp] theorem onEnvelope_peers (f : EnvelopeUnit → EnvelopeUnit) (w : Work) :
    (w.onEnvelope f).peers = w.peers := rfl
@[simp] theorem onEnvelope_claims (f : EnvelopeUnit → EnvelopeUnit) (w : Work) :
    (w.onEnvelope f).claims = w.claims := rfl
@[simp] theorem onEnvelope_strings (f : EnvelopeUnit → EnvelopeUnit) (w : Work) :
    (w.onEnvelope f).strings = w.strings := rfl
@[simp] theorem onEnvelope_envelope (f : EnvelopeUnit → EnvelopeUnit) (w : Work) :
    (w.onEnvelope f).envelope = f w.envelope := rfl
@[simp] theorem onEnvelope_segments (f : EnvelopeUnit → EnvelopeUnit) (w : Work) :
    (w.onEnvelope f).segments = w.segments := rfl
@[simp] theorem onEnvelope_lockTurn (f : EnvelopeUnit → EnvelopeUnit) (w : Work) :
    (w.onEnvelope f).lockTurn = w.lockTurn := rfl
@[simp] theorem onEnvelope_trips (f : EnvelopeUnit → EnvelopeUnit) (w : Work) :
    (w.onEnvelope f).trips = w.trips := rfl
@[simp] theorem onEnvelope_axis (f : EnvelopeUnit → EnvelopeUnit) (w : Work) : (w.onEnvelope f).axis = w.axis := rfl
@[simp] theorem onEnvelope_host (f : EnvelopeUnit → EnvelopeUnit) (w : Work) : (w.onEnvelope f).host = w.host := rfl
@[simp] theorem onEnvelope_stamp (f : EnvelopeUnit → EnvelopeUnit) (w : Work) :
    (w.onEnvelope f).stamp = w.stamp := rfl
@[simp] theorem onEnvelope_freeCount (f : EnvelopeUnit → EnvelopeUnit) (w : Work) :
    (w.onEnvelope f).freeCount = w.freeCount := rfl
@[simp] theorem onEnvelope_pending (f : EnvelopeUnit → EnvelopeUnit) (w : Work) :
    (w.onEnvelope f).pending = w.pending := rfl
@[simp] theorem onEnvelope_posts (f : EnvelopeUnit → EnvelopeUnit) (w : Work) :
    (w.onEnvelope f).posts = w.posts := rfl
@[simp] theorem onEnvelope_raised (f : EnvelopeUnit → EnvelopeUnit) (w : Work) :
    (w.onEnvelope f).raised = w.raised := rfl
@[simp] theorem onEnvelope_touched (f : EnvelopeUnit → EnvelopeUnit) (w : Work) :
    (w.onEnvelope f).touched = w.touched := rfl

/-! ### onSegments -/

@[simp] theorem onSegments_mode (f : SegmentEngine → SegmentEngine) (w : Work) : (w.onSegments f).mode = w.mode := rfl
@[simp] theorem onSegments_image (f : SegmentEngine → SegmentEngine) (w : Work) :
    (w.onSegments f).image = w.image := rfl
@[simp] theorem onSegments_muster (f : SegmentEngine → SegmentEngine) (w : Work) :
    (w.onSegments f).muster = w.muster := rfl
@[simp] theorem onSegments_link (f : SegmentEngine → SegmentEngine) (w : Work) : (w.onSegments f).link = w.link := rfl
@[simp] theorem onSegments_peers (f : SegmentEngine → SegmentEngine) (w : Work) :
    (w.onSegments f).peers = w.peers := rfl
@[simp] theorem onSegments_claims (f : SegmentEngine → SegmentEngine) (w : Work) :
    (w.onSegments f).claims = w.claims := rfl
@[simp] theorem onSegments_strings (f : SegmentEngine → SegmentEngine) (w : Work) :
    (w.onSegments f).strings = w.strings := rfl
@[simp] theorem onSegments_envelope (f : SegmentEngine → SegmentEngine) (w : Work) :
    (w.onSegments f).envelope = w.envelope := rfl
@[simp] theorem onSegments_segments (f : SegmentEngine → SegmentEngine) (w : Work) :
    (w.onSegments f).segments = f w.segments := rfl
@[simp] theorem onSegments_lockTurn (f : SegmentEngine → SegmentEngine) (w : Work) :
    (w.onSegments f).lockTurn = w.lockTurn := rfl
@[simp] theorem onSegments_trips (f : SegmentEngine → SegmentEngine) (w : Work) :
    (w.onSegments f).trips = w.trips := rfl
@[simp] theorem onSegments_axis (f : SegmentEngine → SegmentEngine) (w : Work) : (w.onSegments f).axis = w.axis := rfl
@[simp] theorem onSegments_host (f : SegmentEngine → SegmentEngine) (w : Work) : (w.onSegments f).host = w.host := rfl
@[simp] theorem onSegments_stamp (f : SegmentEngine → SegmentEngine) (w : Work) :
    (w.onSegments f).stamp = w.stamp := rfl
@[simp] theorem onSegments_freeCount (f : SegmentEngine → SegmentEngine) (w : Work) :
    (w.onSegments f).freeCount = w.freeCount := rfl
@[simp] theorem onSegments_pending (f : SegmentEngine → SegmentEngine) (w : Work) :
    (w.onSegments f).pending = w.pending := rfl
@[simp] theorem onSegments_posts (f : SegmentEngine → SegmentEngine) (w : Work) :
    (w.onSegments f).posts = w.posts := rfl
@[simp] theorem onSegments_raised (f : SegmentEngine → SegmentEngine) (w : Work) :
    (w.onSegments f).raised = w.raised := rfl
@[simp] theorem onSegments_touched (f : SegmentEngine → SegmentEngine) (w : Work) :
    (w.onSegments f).touched = w.touched := rfl

/-! ### onLockTurn -/

@[simp] theorem onLockTurn_mode (f : LockTurnUnit → LockTurnUnit) (w : Work) : (w.onLockTurn f).mode = w.mode := rfl
@[simp] theorem onLockTurn_image (f : LockTurnUnit → LockTurnUnit) (w : Work) :
    (w.onLockTurn f).image = w.image := rfl
@[simp] theorem onLockTurn_muster (f : LockTurnUnit → LockTurnUnit) (w : Work) :
    (w.onLockTurn f).muster = w.muster := rfl
@[simp] theorem onLockTurn_link (f : LockTurnUnit → LockTurnUnit) (w : Work) : (w.onLockTurn f).link = w.link := rfl
@[simp] theorem onLockTurn_peers (f : LockTurnUnit → LockTurnUnit) (w : Work) :
    (w.onLockTurn f).peers = w.peers := rfl
@[simp] theorem onLockTurn_claims (f : LockTurnUnit → LockTurnUnit) (w : Work) :
    (w.onLockTurn f).claims = w.claims := rfl
@[simp] theorem onLockTurn_strings (f : LockTurnUnit → LockTurnUnit) (w : Work) :
    (w.onLockTurn f).strings = w.strings := rfl
@[simp] theorem onLockTurn_envelope (f : LockTurnUnit → LockTurnUnit) (w : Work) :
    (w.onLockTurn f).envelope = w.envelope := rfl
@[simp] theorem onLockTurn_segments (f : LockTurnUnit → LockTurnUnit) (w : Work) :
    (w.onLockTurn f).segments = w.segments := rfl
@[simp] theorem onLockTurn_lockTurn (f : LockTurnUnit → LockTurnUnit) (w : Work) :
    (w.onLockTurn f).lockTurn = f w.lockTurn := rfl
@[simp] theorem onLockTurn_trips (f : LockTurnUnit → LockTurnUnit) (w : Work) :
    (w.onLockTurn f).trips = w.trips := rfl
@[simp] theorem onLockTurn_axis (f : LockTurnUnit → LockTurnUnit) (w : Work) : (w.onLockTurn f).axis = w.axis := rfl
@[simp] theorem onLockTurn_host (f : LockTurnUnit → LockTurnUnit) (w : Work) : (w.onLockTurn f).host = w.host := rfl
@[simp] theorem onLockTurn_stamp (f : LockTurnUnit → LockTurnUnit) (w : Work) :
    (w.onLockTurn f).stamp = w.stamp := rfl
@[simp] theorem onLockTurn_freeCount (f : LockTurnUnit → LockTurnUnit) (w : Work) :
    (w.onLockTurn f).freeCount = w.freeCount := rfl
@[simp] theorem onLockTurn_pending (f : LockTurnUnit → LockTurnUnit) (w : Work) :
    (w.onLockTurn f).pending = w.pending := rfl
@[simp] theorem onLockTurn_posts (f : LockTurnUnit → LockTurnUnit) (w : Work) :
    (w.onLockTurn f).posts = w.posts := rfl
@[simp] theorem onLockTurn_raised (f : LockTurnUnit → LockTurnUnit) (w : Work) :
    (w.onLockTurn f).raised = w.raised := rfl
@[simp] theorem onLockTurn_touched (f : LockTurnUnit → LockTurnUnit) (w : Work) :
    (w.onLockTurn f).touched = w.touched := rfl

/-! ### onTrips -/

@[simp] theorem onTrips_mode (f : TripController → TripController) (w : Work) : (w.onTrips f).mode = w.mode := rfl
@[simp] theorem onTrips_image (f : TripController → TripController) (w : Work) : (w.onTrips f).image = w.image := rfl
@[simp] theorem onTrips_muster (f : TripController → TripController) (w : Work) :
    (w.onTrips f).muster = w.muster := rfl
@[simp] theorem onTrips_link (f : TripController → TripController) (w : Work) : (w.onTrips f).link = w.link := rfl
@[simp] theorem onTrips_peers (f : TripController → TripController) (w : Work) : (w.onTrips f).peers = w.peers := rfl
@[simp] theorem onTrips_claims (f : TripController → TripController) (w : Work) :
    (w.onTrips f).claims = w.claims := rfl
@[simp] theorem onTrips_strings (f : TripController → TripController) (w : Work) :
    (w.onTrips f).strings = w.strings := rfl
@[simp] theorem onTrips_envelope (f : TripController → TripController) (w : Work) :
    (w.onTrips f).envelope = w.envelope := rfl
@[simp] theorem onTrips_segments (f : TripController → TripController) (w : Work) :
    (w.onTrips f).segments = w.segments := rfl
@[simp] theorem onTrips_lockTurn (f : TripController → TripController) (w : Work) :
    (w.onTrips f).lockTurn = w.lockTurn := rfl
@[simp] theorem onTrips_trips (f : TripController → TripController) (w : Work) :
    (w.onTrips f).trips = f w.trips := rfl
@[simp] theorem onTrips_axis (f : TripController → TripController) (w : Work) : (w.onTrips f).axis = w.axis := rfl
@[simp] theorem onTrips_host (f : TripController → TripController) (w : Work) : (w.onTrips f).host = w.host := rfl
@[simp] theorem onTrips_stamp (f : TripController → TripController) (w : Work) : (w.onTrips f).stamp = w.stamp := rfl
@[simp] theorem onTrips_freeCount (f : TripController → TripController) (w : Work) :
    (w.onTrips f).freeCount = w.freeCount := rfl
@[simp] theorem onTrips_pending (f : TripController → TripController) (w : Work) :
    (w.onTrips f).pending = w.pending := rfl
@[simp] theorem onTrips_posts (f : TripController → TripController) (w : Work) : (w.onTrips f).posts = w.posts := rfl
@[simp] theorem onTrips_raised (f : TripController → TripController) (w : Work) :
    (w.onTrips f).raised = w.raised := rfl
@[simp] theorem onTrips_touched (f : TripController → TripController) (w : Work) :
    (w.onTrips f).touched = w.touched := rfl

/-! ### onAxis -/

@[simp] theorem onAxis_mode (f : AxisInterface → AxisInterface) (w : Work) : (w.onAxis f).mode = w.mode := rfl
@[simp] theorem onAxis_image (f : AxisInterface → AxisInterface) (w : Work) : (w.onAxis f).image = w.image := rfl
@[simp] theorem onAxis_muster (f : AxisInterface → AxisInterface) (w : Work) : (w.onAxis f).muster = w.muster := rfl
@[simp] theorem onAxis_link (f : AxisInterface → AxisInterface) (w : Work) : (w.onAxis f).link = w.link := rfl
@[simp] theorem onAxis_peers (f : AxisInterface → AxisInterface) (w : Work) : (w.onAxis f).peers = w.peers := rfl
@[simp] theorem onAxis_claims (f : AxisInterface → AxisInterface) (w : Work) : (w.onAxis f).claims = w.claims := rfl
@[simp] theorem onAxis_strings (f : AxisInterface → AxisInterface) (w : Work) :
    (w.onAxis f).strings = w.strings := rfl
@[simp] theorem onAxis_envelope (f : AxisInterface → AxisInterface) (w : Work) :
    (w.onAxis f).envelope = w.envelope := rfl
@[simp] theorem onAxis_segments (f : AxisInterface → AxisInterface) (w : Work) :
    (w.onAxis f).segments = w.segments := rfl
@[simp] theorem onAxis_lockTurn (f : AxisInterface → AxisInterface) (w : Work) :
    (w.onAxis f).lockTurn = w.lockTurn := rfl
@[simp] theorem onAxis_trips (f : AxisInterface → AxisInterface) (w : Work) : (w.onAxis f).trips = w.trips := rfl
@[simp] theorem onAxis_axis (f : AxisInterface → AxisInterface) (w : Work) : (w.onAxis f).axis = f w.axis := rfl
@[simp] theorem onAxis_host (f : AxisInterface → AxisInterface) (w : Work) : (w.onAxis f).host = w.host := rfl
@[simp] theorem onAxis_stamp (f : AxisInterface → AxisInterface) (w : Work) : (w.onAxis f).stamp = w.stamp := rfl
@[simp] theorem onAxis_freeCount (f : AxisInterface → AxisInterface) (w : Work) :
    (w.onAxis f).freeCount = w.freeCount := rfl
@[simp] theorem onAxis_pending (f : AxisInterface → AxisInterface) (w : Work) :
    (w.onAxis f).pending = w.pending := rfl
@[simp] theorem onAxis_posts (f : AxisInterface → AxisInterface) (w : Work) : (w.onAxis f).posts = w.posts := rfl
@[simp] theorem onAxis_raised (f : AxisInterface → AxisInterface) (w : Work) : (w.onAxis f).raised = w.raised := rfl
@[simp] theorem onAxis_touched (f : AxisInterface → AxisInterface) (w : Work) :
    (w.onAxis f).touched = w.touched := rfl

/-! ### onPeer -/

@[simp] theorem onPeer_mode (s : Station) (f : PeerEntry → PeerEntry) (w : Work) : (w.onPeer s f).mode = w.mode := rfl
@[simp] theorem onPeer_image (s : Station) (f : PeerEntry → PeerEntry) (w : Work) :
    (w.onPeer s f).image = w.image := rfl
@[simp] theorem onPeer_muster (s : Station) (f : PeerEntry → PeerEntry) (w : Work) :
    (w.onPeer s f).muster = w.muster := rfl
@[simp] theorem onPeer_link (s : Station) (f : PeerEntry → PeerEntry) (w : Work) : (w.onPeer s f).link = w.link := rfl
@[simp] theorem onPeer_peers (s : Station) (f : PeerEntry → PeerEntry) (w : Work) :
    (w.onPeer s f).peers = w.peers.set s (f (w.peers.get s)) := rfl
@[simp] theorem onPeer_claims (s : Station) (f : PeerEntry → PeerEntry) (w : Work) :
    (w.onPeer s f).claims = w.claims := rfl
@[simp] theorem onPeer_strings (s : Station) (f : PeerEntry → PeerEntry) (w : Work) :
    (w.onPeer s f).strings = w.strings := rfl
@[simp] theorem onPeer_envelope (s : Station) (f : PeerEntry → PeerEntry) (w : Work) :
    (w.onPeer s f).envelope = w.envelope := rfl
@[simp] theorem onPeer_segments (s : Station) (f : PeerEntry → PeerEntry) (w : Work) :
    (w.onPeer s f).segments = w.segments := rfl
@[simp] theorem onPeer_lockTurn (s : Station) (f : PeerEntry → PeerEntry) (w : Work) :
    (w.onPeer s f).lockTurn = w.lockTurn := rfl
@[simp] theorem onPeer_trips (s : Station) (f : PeerEntry → PeerEntry) (w : Work) :
    (w.onPeer s f).trips = w.trips := rfl
@[simp] theorem onPeer_axis (s : Station) (f : PeerEntry → PeerEntry) (w : Work) : (w.onPeer s f).axis = w.axis := rfl
@[simp] theorem onPeer_host (s : Station) (f : PeerEntry → PeerEntry) (w : Work) : (w.onPeer s f).host = w.host := rfl
@[simp] theorem onPeer_stamp (s : Station) (f : PeerEntry → PeerEntry) (w : Work) :
    (w.onPeer s f).stamp = w.stamp := rfl
@[simp] theorem onPeer_freeCount (s : Station) (f : PeerEntry → PeerEntry) (w : Work) :
    (w.onPeer s f).freeCount = w.freeCount := rfl
@[simp] theorem onPeer_pending (s : Station) (f : PeerEntry → PeerEntry) (w : Work) :
    (w.onPeer s f).pending = w.pending := rfl
@[simp] theorem onPeer_posts (s : Station) (f : PeerEntry → PeerEntry) (w : Work) :
    (w.onPeer s f).posts = w.posts := rfl
@[simp] theorem onPeer_raised (s : Station) (f : PeerEntry → PeerEntry) (w : Work) :
    (w.onPeer s f).raised = w.raised := rfl
@[simp] theorem onPeer_touched (s : Station) (f : PeerEntry → PeerEntry) (w : Work) :
    (w.onPeer s f).touched = w.touched := rfl

/-! ### onEntry -/

@[simp] theorem onEntry_mode (t : Tag) (f : ClaimEntry → ClaimEntry) (w : Work) : (w.onEntry t f).mode = w.mode := rfl
@[simp] theorem onEntry_image (t : Tag) (f : ClaimEntry → ClaimEntry) (w : Work) :
    (w.onEntry t f).image = w.image := rfl
@[simp] theorem onEntry_muster (t : Tag) (f : ClaimEntry → ClaimEntry) (w : Work) :
    (w.onEntry t f).muster = w.muster := rfl
@[simp] theorem onEntry_link (t : Tag) (f : ClaimEntry → ClaimEntry) (w : Work) : (w.onEntry t f).link = w.link := rfl
@[simp] theorem onEntry_peers (t : Tag) (f : ClaimEntry → ClaimEntry) (w : Work) :
    (w.onEntry t f).peers = w.peers := rfl
@[simp] theorem onEntry_claims (t : Tag) (f : ClaimEntry → ClaimEntry) (w : Work) :
    (w.onEntry t f).claims = { w.claims with table := w.claims.table.map fun e => if e.tag = t then f e else e } := rfl
@[simp] theorem onEntry_strings (t : Tag) (f : ClaimEntry → ClaimEntry) (w : Work) :
    (w.onEntry t f).strings = w.strings := rfl
@[simp] theorem onEntry_envelope (t : Tag) (f : ClaimEntry → ClaimEntry) (w : Work) :
    (w.onEntry t f).envelope = w.envelope := rfl
@[simp] theorem onEntry_segments (t : Tag) (f : ClaimEntry → ClaimEntry) (w : Work) :
    (w.onEntry t f).segments = w.segments := rfl
@[simp] theorem onEntry_lockTurn (t : Tag) (f : ClaimEntry → ClaimEntry) (w : Work) :
    (w.onEntry t f).lockTurn = w.lockTurn := rfl
@[simp] theorem onEntry_trips (t : Tag) (f : ClaimEntry → ClaimEntry) (w : Work) :
    (w.onEntry t f).trips = w.trips := rfl
@[simp] theorem onEntry_axis (t : Tag) (f : ClaimEntry → ClaimEntry) (w : Work) : (w.onEntry t f).axis = w.axis := rfl
@[simp] theorem onEntry_host (t : Tag) (f : ClaimEntry → ClaimEntry) (w : Work) : (w.onEntry t f).host = w.host := rfl
@[simp] theorem onEntry_stamp (t : Tag) (f : ClaimEntry → ClaimEntry) (w : Work) :
    (w.onEntry t f).stamp = w.stamp := rfl
@[simp] theorem onEntry_freeCount (t : Tag) (f : ClaimEntry → ClaimEntry) (w : Work) :
    (w.onEntry t f).freeCount = w.freeCount := rfl
@[simp] theorem onEntry_pending (t : Tag) (f : ClaimEntry → ClaimEntry) (w : Work) :
    (w.onEntry t f).pending = w.pending := rfl
@[simp] theorem onEntry_posts (t : Tag) (f : ClaimEntry → ClaimEntry) (w : Work) :
    (w.onEntry t f).posts = w.posts := rfl
@[simp] theorem onEntry_raised (t : Tag) (f : ClaimEntry → ClaimEntry) (w : Work) :
    (w.onEntry t f).raised = w.raised := rfl
@[simp] theorem onEntry_touched (t : Tag) (f : ClaimEntry → ClaimEntry) (w : Work) :
    (w.onEntry t f).touched = w.touched := rfl

/-! ### post -/

@[simp] theorem post_mode (b : Block) (e : Event) (w : Work) : (w.post b e).mode = w.mode := rfl
@[simp] theorem post_image (b : Block) (e : Event) (w : Work) : (w.post b e).image = w.image := rfl
@[simp] theorem post_muster (b : Block) (e : Event) (w : Work) : (w.post b e).muster = w.muster := rfl
@[simp] theorem post_link (b : Block) (e : Event) (w : Work) : (w.post b e).link = w.link := rfl
@[simp] theorem post_peers (b : Block) (e : Event) (w : Work) : (w.post b e).peers = w.peers := rfl
@[simp] theorem post_claims (b : Block) (e : Event) (w : Work) : (w.post b e).claims = w.claims := rfl
@[simp] theorem post_strings (b : Block) (e : Event) (w : Work) : (w.post b e).strings = w.strings := rfl
@[simp] theorem post_envelope (b : Block) (e : Event) (w : Work) : (w.post b e).envelope = w.envelope := rfl
@[simp] theorem post_segments (b : Block) (e : Event) (w : Work) : (w.post b e).segments = w.segments := rfl
@[simp] theorem post_lockTurn (b : Block) (e : Event) (w : Work) : (w.post b e).lockTurn = w.lockTurn := rfl
@[simp] theorem post_trips (b : Block) (e : Event) (w : Work) : (w.post b e).trips = w.trips := rfl
@[simp] theorem post_axis (b : Block) (e : Event) (w : Work) : (w.post b e).axis = w.axis := rfl
@[simp] theorem post_host (b : Block) (e : Event) (w : Work) : (w.post b e).host = w.host := rfl
@[simp] theorem post_stamp (b : Block) (e : Event) (w : Work) : (w.post b e).stamp = w.stamp := rfl
@[simp] theorem post_freeCount (b : Block) (e : Event) (w : Work) : (w.post b e).freeCount = w.freeCount := rfl
@[simp] theorem post_pending (b : Block) (e : Event) (w : Work) : (w.post b e).pending = w.pending := rfl
@[simp] theorem post_posts (b : Block) (e : Event) (w : Work) : (w.post b e).posts = w.posts ++ [(b, e)] := rfl
@[simp] theorem post_raised (b : Block) (e : Event) (w : Work) : (w.post b e).raised = w.raised := rfl
@[simp] theorem post_touched (b : Block) (e : Event) (w : Work) : (w.post b e).touched = w.touched := rfl
@[simp] theorem post_toState (b : Block) (e : Event) (w : Work) : (w.post b e).toState = w.toState := rfl

/-! ### raise -/

@[simp] theorem raise_mode (c : CauseReport) (w : Work) : (w.raise c).mode = w.mode := rfl
@[simp] theorem raise_image (c : CauseReport) (w : Work) : (w.raise c).image = w.image := rfl
@[simp] theorem raise_muster (c : CauseReport) (w : Work) : (w.raise c).muster = w.muster := rfl
@[simp] theorem raise_link (c : CauseReport) (w : Work) : (w.raise c).link = w.link := rfl
@[simp] theorem raise_peers (c : CauseReport) (w : Work) : (w.raise c).peers = w.peers := rfl
@[simp] theorem raise_claims (c : CauseReport) (w : Work) : (w.raise c).claims = w.claims := rfl
@[simp] theorem raise_strings (c : CauseReport) (w : Work) : (w.raise c).strings = w.strings := rfl
@[simp] theorem raise_envelope (c : CauseReport) (w : Work) : (w.raise c).envelope = w.envelope := rfl
@[simp] theorem raise_segments (c : CauseReport) (w : Work) : (w.raise c).segments = w.segments := rfl
@[simp] theorem raise_lockTurn (c : CauseReport) (w : Work) : (w.raise c).lockTurn = w.lockTurn := rfl
@[simp] theorem raise_trips (c : CauseReport) (w : Work) : (w.raise c).trips = w.trips := rfl
@[simp] theorem raise_axis (c : CauseReport) (w : Work) : (w.raise c).axis = w.axis := rfl
@[simp] theorem raise_host (c : CauseReport) (w : Work) : (w.raise c).host = w.host := rfl
@[simp] theorem raise_stamp (c : CauseReport) (w : Work) : (w.raise c).stamp = w.stamp := rfl
@[simp] theorem raise_freeCount (c : CauseReport) (w : Work) : (w.raise c).freeCount = w.freeCount := rfl
@[simp] theorem raise_pending (c : CauseReport) (w : Work) : (w.raise c).pending = w.pending := rfl
@[simp] theorem raise_posts (c : CauseReport) (w : Work) : (w.raise c).posts = w.posts := rfl
@[simp] theorem raise_raised (c : CauseReport) (w : Work) : (w.raise c).raised = w.raised ++ [c] := rfl
@[simp] theorem raise_touched (c : CauseReport) (w : Work) : (w.raise c).touched = w.touched := rfl
@[simp] theorem raise_toState (c : CauseReport) (w : Work) : (w.raise c).toState = w.toState := rfl

/-! ### touch -/

@[simp] theorem touch_mode (n : Nat) (w : Work) : (w.touch n).mode = w.mode := rfl
@[simp] theorem touch_image (n : Nat) (w : Work) : (w.touch n).image = w.image := rfl
@[simp] theorem touch_muster (n : Nat) (w : Work) : (w.touch n).muster = w.muster := rfl
@[simp] theorem touch_link (n : Nat) (w : Work) : (w.touch n).link = w.link := rfl
@[simp] theorem touch_peers (n : Nat) (w : Work) : (w.touch n).peers = w.peers := rfl
@[simp] theorem touch_claims (n : Nat) (w : Work) : (w.touch n).claims = w.claims := rfl
@[simp] theorem touch_strings (n : Nat) (w : Work) : (w.touch n).strings = w.strings := rfl
@[simp] theorem touch_envelope (n : Nat) (w : Work) : (w.touch n).envelope = w.envelope := rfl
@[simp] theorem touch_segments (n : Nat) (w : Work) : (w.touch n).segments = w.segments := rfl
@[simp] theorem touch_lockTurn (n : Nat) (w : Work) : (w.touch n).lockTurn = w.lockTurn := rfl
@[simp] theorem touch_trips (n : Nat) (w : Work) : (w.touch n).trips = w.trips := rfl
@[simp] theorem touch_axis (n : Nat) (w : Work) : (w.touch n).axis = w.axis := rfl
@[simp] theorem touch_host (n : Nat) (w : Work) : (w.touch n).host = w.host := rfl
@[simp] theorem touch_stamp (n : Nat) (w : Work) : (w.touch n).stamp = w.stamp := rfl
@[simp] theorem touch_freeCount (n : Nat) (w : Work) : (w.touch n).freeCount = w.freeCount := rfl
@[simp] theorem touch_pending (n : Nat) (w : Work) : (w.touch n).pending = w.pending := rfl
@[simp] theorem touch_posts (n : Nat) (w : Work) : (w.touch n).posts = w.posts := rfl
@[simp] theorem touch_raised (n : Nat) (w : Work) : (w.touch n).raised = w.raised := rfl
@[simp] theorem touch_touched (n : Nat) (w : Work) : (w.touch n).touched = w.touched ++ [n] := rfl
@[simp] theorem touch_toState (n : Nat) (w : Work) : (w.touch n).toState = w.toState := rfl

/-! ### A command begins -/

@[simp] theorem begin_toState (s : State) : (Work.begin s).toState = s := rfl
@[simp] theorem begin_posts (s : State) : (Work.begin s).posts = [] := rfl
@[simp] theorem begin_raised (s : State) : (Work.begin s).raised = [] := rfl
@[simp] theorem begin_touched (s : State) : (Work.begin s).touched = [] := rfl

@[simp] theorem when_true (f : Work → Work) (w : Work) : w.when true f = f w := rfl
@[simp] theorem when_false (f : Work → Work) (w : Work) : w.when false f = w := rfl

end Work

/-! ### The reply and the end of a command -/

namespace State

@[simp] theorem reply_mode (st : Status) (l : List Byte) (s : State) : (s.reply st l).mode = s.mode := rfl
@[simp] theorem reply_image (st : Status) (l : List Byte) (s : State) : (s.reply st l).image = s.image := rfl
@[simp] theorem reply_muster (st : Status) (l : List Byte) (s : State) : (s.reply st l).muster = s.muster := rfl
@[simp] theorem reply_link (st : Status) (l : List Byte) (s : State) : (s.reply st l).link = s.link := rfl
@[simp] theorem reply_peers (st : Status) (l : List Byte) (s : State) : (s.reply st l).peers = s.peers := rfl
@[simp] theorem reply_claims (st : Status) (l : List Byte) (s : State) : (s.reply st l).claims = s.claims := rfl
@[simp] theorem reply_strings (st : Status) (l : List Byte) (s : State) : (s.reply st l).strings = s.strings := rfl
@[simp] theorem reply_envelope (st : Status) (l : List Byte) (s : State) : (s.reply st l).envelope = s.envelope := rfl
@[simp] theorem reply_segments (st : Status) (l : List Byte) (s : State) : (s.reply st l).segments = s.segments := rfl
@[simp] theorem reply_lockTurn (st : Status) (l : List Byte) (s : State) : (s.reply st l).lockTurn = s.lockTurn := rfl
@[simp] theorem reply_trips (st : Status) (l : List Byte) (s : State) : (s.reply st l).trips = s.trips := rfl
@[simp] theorem reply_axis (st : Status) (l : List Byte) (s : State) : (s.reply st l).axis = s.axis := rfl
@[simp] theorem reply_stamp (st : Status) (l : List Byte) (s : State) : (s.reply st l).stamp = s.stamp := rfl
@[simp] theorem reply_freeCount (st : Status) (l : List Byte) (s : State) : (s.reply st l).freeCount = s.freeCount := rfl
@[simp] theorem reply_pending (st : Status) (l : List Byte) (s : State) : (s.reply st l).pending = s.pending := rfl
@[simp] theorem reply_host (st : Status) (l : List Byte) (s : State) :
    (s.reply st l).host = { s.host with reply := some { status := st, bytes := l } } := rfl

end State

@[simp] theorem commit_mode (old : State) (w : Work) : (commit old w).mode = w.mode := rfl
@[simp] theorem commit_image (old : State) (w : Work) : (commit old w).image = w.image := rfl
@[simp] theorem commit_muster (old : State) (w : Work) : (commit old w).muster = w.muster := rfl
@[simp] theorem commit_link (old : State) (w : Work) : (commit old w).link = w.link := rfl
@[simp] theorem commit_peers (old : State) (w : Work) : (commit old w).peers = w.peers := rfl
@[simp] theorem commit_claims (old : State) (w : Work) : (commit old w).claims = w.claims := rfl
@[simp] theorem commit_strings (old : State) (w : Work) : (commit old w).strings = w.strings := rfl
@[simp] theorem commit_envelope (old : State) (w : Work) : (commit old w).envelope = w.envelope := rfl
@[simp] theorem commit_segments (old : State) (w : Work) : (commit old w).segments = w.segments := rfl
@[simp] theorem commit_lockTurn (old : State) (w : Work) : (commit old w).lockTurn = w.lockTurn := rfl
@[simp] theorem commit_trips (old : State) (w : Work) : (commit old w).trips = w.trips := rfl
@[simp] theorem commit_axis (old : State) (w : Work) : (commit old w).axis = w.axis := rfl
@[simp] theorem commit_host (old : State) (w : Work) : (commit old w).host = HostPort.afterCommand old w := rfl
@[simp] theorem commit_stamp (old : State) (w : Work) : (commit old w).stamp = w.stamp := rfl
@[simp] theorem commit_freeCount (old : State) (w : Work) : (commit old w).freeCount = old.freeCount + 1 := rfl
@[simp] theorem commit_pending (old : State) (w : Work) : (commit old w).pending = w.pending := rfl

/-! ### The release of a reset -/

namespace State

@[simp] theorem release_mode (s : State) : s.release.mode = s.mode := rfl
@[simp] theorem release_image (s : State) : s.release.image = Image.defaults s.muster.pins.role := rfl
@[simp] theorem release_muster (s : State) :
    s.release.muster = { s.muster with straps := s.muster.pins, resetHeld := false } := rfl
@[simp] theorem release_link (s : State) : s.release.link = s.link := rfl
@[simp] theorem release_peers (s : State) : s.release.peers = s.peers := rfl
@[simp] theorem release_claims (s : State) : s.release.claims = s.claims := rfl
@[simp] theorem release_strings (s : State) : s.release.strings = s.strings := rfl
@[simp] theorem release_envelope (s : State) : s.release.envelope = s.envelope := rfl
@[simp] theorem release_segments (s : State) : s.release.segments = s.segments := rfl
@[simp] theorem release_lockTurn (s : State) : s.release.lockTurn = s.lockTurn := rfl
@[simp] theorem release_trips (s : State) : s.release.trips = s.trips := rfl
@[simp] theorem release_axis (s : State) : s.release.axis = s.axis := rfl
@[simp] theorem release_host (s : State) : s.release.host = s.host := rfl
@[simp] theorem release_stamp (s : State) : s.release.stamp = 0 := rfl
@[simp] theorem release_freeCount (s : State) : s.release.freeCount = s.freeCount := rfl
@[simp] theorem release_pending (s : State) : s.release.pending = s.pending := rfl

/-- A HOST reset under a held reset stays held (log 4). -/
theorem hostReset_of_held {s : State} (h : s.muster.resetHeld = true) : s.hostReset = s.resetBy .host := if_pos h

/-- With no reset held a HOST reset is released as it is applied (R44). -/
theorem hostReset_of_released {s : State} (h : s.muster.resetHeld = false) : s.hostReset = (s.resetBy .host).release :=
  if_neg (by rw [h]; decide)

end State

end Sys2Proof.Machine
end

