-- ==== Sys2Proof/Laws/Finish.lean ====
section
/-! SUPPORT. The end of a command: what entering events keeps, what `sync` may change, and the calm end, in which no
cause is waiting and nothing that follows the state has moved. A statement about a calm command rests on
`finish_ends` and `finish_same`. -/

namespace Sys2Proof.Machine

/-! ### Entering events (R181, R183) -/

theorem enter_length_le (e : Event) (h : HostPort) (hl : h.events.length ≤ 32) : (h.enter e).events.length ≤ 32 := by
  unfold HostPort.enter
  split
  · simp only [List.length_append, List.length_singleton]; omega
  · exact hl

theorem enter_attention (e : Event) (h : HostPort) (hs : h.attn = (!h.events.isEmpty && !h.acked)) :
    (h.enter e).attn = (!(h.enter e).events.isEmpty && !(h.enter e).acked) := by
  unfold HostPort.enter
  split
  · simp
  · exact hs

theorem enter_room (e : Event) (h : HostPort) (hl : h.events.length < 32) :
    h.enter e = { h with events := h.events ++ [e], acked := false, attn := true } := by
  simp [HostPort.enter, hl]

theorem enter_full (e : Event) (h : HostPort) (hl : 32 ≤ h.events.length) : h.enter e = { h with overrun := true } := by
  simp [HostPort.enter, Nat.not_lt.mpr hl]

theorem foldl_enter_kept (l : List Event) (h : HostPort) :
    (l.foldl (fun h e => h.enter e) h).selection = h.selection ∧
      (l.foldl (fun h e => h.enter e) h).wordIndex = h.wordIndex ∧
      (l.foldl (fun h e => h.enter e) h).resetPending = h.resetPending ∧
      (l.foldl (fun h e => h.enter e) h).resetTaken = h.resetTaken ∧
      (l.foldl (fun h e => h.enter e) h).reply = h.reply ∧
      (l.foldl (fun h e => h.enter e) h).changeMark = h.changeMark := by
  induction l generalizing h with
  | nil => exact ⟨rfl, rfl, rfl, rfl, rfl, rfl⟩
  | cons e l ih =>
    obtain ⟨a, b, c, d, f, g⟩ := ih (h.enter e)
    have hk : (h.enter e).selection = h.selection ∧ (h.enter e).wordIndex = h.wordIndex ∧
        (h.enter e).resetPending = h.resetPending ∧ (h.enter e).resetTaken = h.resetTaken ∧
        (h.enter e).reply = h.reply ∧ (h.enter e).changeMark = h.changeMark := by
      unfold HostPort.enter
      split <;> exact ⟨rfl, rfl, rfl, rfl, rfl, rfl⟩
    obtain ⟨a', b', c', d', f', g'⟩ := hk
    exact ⟨a.trans a', b.trans b', c.trans c', d.trans d', f.trans f', g.trans g'⟩

/-- Entering the stamped posts of a command is entering the events they were made from. -/
theorem foldl_enter_stamped (es : List Event) (stamp : Word16) (h : HostPort) :
    (es.map (·.stamped stamp)).foldl (fun h e => h.enter e) h = h.enterAll es stamp := by
  unfold HostPort.enterAll
  rw [List.foldl_map]

/-- The port's rule of ATTN and its size hold after any command that began with them, whatever it posted (R181,
R183). -/
theorem commit_hostSound (old : State) (w : Work) (h : HostSound old) : HostSound (commit old w) := by
  have key : ∀ (l : List Event) (p : HostPort),
      (p.attn = (!p.events.isEmpty && !p.acked) ∧ p.events.length ≤ 32) →
      ((l.foldl (fun h e => h.enter e) p).attn =
          (!(l.foldl (fun h e => h.enter e) p).events.isEmpty && !(l.foldl (fun h e => h.enter e) p).acked) ∧
        (l.foldl (fun h e => h.enter e) p).events.length ≤ 32) := by
    intro l
    induction l with
    | nil => exact fun _ h => h
    | cons e l ih => exact fun p hp => ih _ ⟨enter_attention e p hp.1, enter_length_le e p hp.2⟩
  exact key w.ordered old.host h

/-! ### What follows the state at a command's end -/

theorem settle_calm (w : Work) (h : w.raised = []) : w.settle = w := by
  unfold Work.settle Work.settleFor
  rw [h]

theorem syncCopy_calm (old : State) (w : Work) (h : old.copyValid = w.copyValid) : w.syncCopy old = w := by
  simp [Work.syncCopy, h]

theorem syncPermit_calm (old : State) (w : Work)
    (h : (old.crowdPermit && !w.crowdPermit && (w.ownHeldOf .crowdLoad).isSome) = false) : w.syncPermit old = w := by
  unfold Work.syncPermit
  rw [h]
  rfl

/-- The demand timer after a command in which starvation did not begin: running on, or stopped (R138). -/
def Work.timed (w : Work) : Work :=
  if w.starved then w else w.onSegments fun e => { e with demandTimer := none }

theorem syncStarvation_calm (old : State) (w : Work) (h : w.starved = true → old.starved = true) :
    w.syncStarvation old = w.timed := by
  unfold Work.syncStarvation Work.timed
  by_cases hw : w.starved = true
  · simp [hw, h hw]
  · simp [hw]

/-- A command ends calmly: no cause waits, the copy's validity and the crowd force permit stand as they stood, and
starvation does not begin. -/
structure Calm (old : State) (w : Work) : Prop where
  raised : w.raised = []
  copy : old.copyValid = w.copyValid
  permit : (old.crowdPermit && !w.crowdPermit && (w.ownHeldOf .crowdLoad).isSome) = false
  starved : w.starved = true → old.starved = true

theorem finish_calm {old : State} {w : Work} (h : Calm old w) : finish old w = commit old w.timed := by
  unfold finish Work.sync
  rw [settle_calm w h.raised, syncCopy_calm old w h.copy, syncPermit_calm old w h.permit,
    syncStarvation_calm old w h.starved]

/-- A calm end changes no part of the state that the work reached. -/
theorem finish_same {old : State} {w : Work} (h : Calm old w) (p : Part) : p.same w.toState (finish old w) := by
  rw [finish_calm h]
  unfold Work.timed
  by_cases hw : w.starved = true <;> simp only [hw, if_true, if_false, Bool.false_eq_true] <;> cases p <;> rfl

theorem timed_starved (w : Work) : w.timed.starved = w.starved := by
  unfold Work.timed
  split <;> rfl

/-- A calm end posts the work's events, sets the change mark by the selected record, and moves the demand timer only as
the starvation conditions say. -/
theorem finish_ends {old : State} {w : Work} {es : List Event} (h : Calm old w)
    (timer : w.segments.demandTimer = old.segments.demandTimer)
    (posts : w.ordered = es.map (·.stamped w.stamp)) : Ends es w.touched old.host.reply old (finish old w) := by
  rw [finish_calm h]
  have hord : w.timed.ordered = es.map (·.stamped w.stamp) := by
    rw [← posts]; unfold Work.timed; split <;> rfl
  have hstamp : w.timed.stamp = w.stamp := by unfold Work.timed; split <;> rfl
  have htouch : w.timed.touched = w.touched := by unfold Work.timed; split <;> rfl
  have hhost : (commit old w.timed).host =
      { old.host.enterAll es w.stamp with
        changeMark := old.host.changeMark || w.timed.selectedChanged old } := by
    rw [commit_host]
    unfold HostPort.afterCommand
    rw [hord, foldl_enter_stamped]
  have hkept := foldl_enter_kept (es.map (·.stamped w.stamp)) old.host
  rw [foldl_enter_stamped] at hkept
  obtain ⟨ha, hb, hc, hd, he, -⟩ := hkept
  refine ⟨?_, ?_, ?_, ?_, ?_⟩
  · unfold Posted
    rw [hhost, commit_stamp, hstamp]
    exact ⟨rfl, rfl, rfl, rfl⟩
  · unfold MarkFollows
    rw [hhost]
    unfold Work.selectedChanged
    rw [htouch]
    cases old.host.selection <;> rfl
  · unfold PortKept
    rw [hhost]
    exact ⟨ha, hb, hc, hd⟩
  · unfold TimerFollows
    have hst : (commit old w.timed).starved = w.starved := timed_starved w
    rw [hst, commit_segments]
    by_cases hw : w.starved = true
    · simp only [hw, if_true, h.starved hw, Work.timed]
      exact timer
    · simp only [hw, Bool.false_eq_true, if_false, Work.timed]
      rfl
  · rw [hhost]
    exact he

/-! ### Frames -/

theorem SameExcept.refl (l : List Part) (s : State) : SameExcept l s s := fun p _ => by cases p <;> rfl

theorem Part.same_trans {p : Part} {s t u : State} (h : p.same s t) (k : p.same t u) : p.same s u := by
  cases p <;> exact Eq.trans k h

theorem SameExcept.trans {l : List Part} {s t u : State} (h : SameExcept l s t) (k : SameExcept l t u) :
    SameExcept l s u := fun p hp => Part.same_trans (h p hp) (k p hp)

theorem SameExcept.mono {l m : List Part} {s t : State} (hlm : ∀ p ∈ l, p ∈ m) (h : SameExcept l s t) :
    SameExcept m s t := fun p hp => h p fun hl => hp (hlm p hl)

/-- The frame of a calm command is the frame of its work. -/
theorem finish_sameExcept {old : State} {w : Work} {l : List Part} (h : Calm old w)
    (hw : SameExcept l old w.toState) : SameExcept l old (finish old w) :=
  hw.trans fun p _ => finish_same h p

/-! ### The judging of host commands (R178) -/

theorem serve_notReady (mode role : Bool) (act : State → State) (s : State) (h : s.notReady = true) :
    serve mode role act s = .next (s.reply .notReady []) := by simp [serve, h]

theorem serve_wrongMode (role : Bool) (act : State → State) (s : State) (h : s.notReady = false) :
    serve false role act s = .next (s.reply .wrongMode []) := by simp [serve, h]

theorem serve_wrongRole (act : State → State) (s : State) (h : s.notReady = false) :
    serve true false act s = .next (s.reply .wrongRole []) := by simp [serve, h]

theorem serve_acts (act : State → State) (s : State) (h : s.notReady = false) :
    serve true true act s = .next (act s) := by simp [serve, h]

theorem notReady_eq (s : State) : s.notReady = !s.ready := by
  unfold State.notReady State.ready
  by_cases h : s.mode = .start <;> cases hr : s.host.resetTaken <;> simp [h]

end Sys2Proof.Machine
end

