-- ==== Sys2Proof/Laws/Ops.lean ====
section
/-! SUPPORT. One lemma for each shared operation that says what it can do: the eight-fold tables, the transmit queue, the
requests of a release and of a revoke, the trip record, the open MARK of the segment queue, the bounds of ramps, limits
and envelopes, and the nearest pocket. -/

namespace Sys2Proof

namespace Eight

variable {α : Type}

@[simp] theorem get_set_self (t : Eight α) (i : Fin 8) (a : α) : (t.set i a).get i = a := by
  fin_cases i <;> rfl

theorem get_set_other (t : Eight α) {i j : Fin 8} (a : α) (h : j ≠ i) : (t.set i a).get j = t.get j := by
  fin_cases i <;> fin_cases j <;> first | rfl | exact absurd rfl h

@[simp] theorem get_const (a : α) (i : Fin 8) : (Eight.const a).get i = a := by fin_cases i <;> rfl

@[simp] theorem get_map {β : Type} (f : α → β) (t : Eight α) (i : Fin 8) : (t.map f).get i = f (t.get i) := by
  fin_cases i <;> rfl

theorem ext_get {t u : Eight α} (h : ∀ i, t.get i = u.get i) : t = u := by
  cases t; cases u
  have := h 0; have := h 1; have := h 2; have := h 3; have := h 4; have := h 5; have := h 6; have := h 7
  simp_all [Eight.get]

end Eight

end Sys2Proof

namespace Sys2Proof.Machine

/-! ### The transmit queue (R31, R32, R40, R41) -/

theorem insert_slot (i : TxItem) (l : LinkController) : (l.insert i).slot = l.slot := rfl

theorem insert_queue_perm (i : TxItem) (l : LinkController) : (l.insert i).queue.Perm (i :: l.queue) := by
  unfold LinkController.insert
  refine (List.perm_middle).trans (List.Perm.cons i ?_)
  rw [List.takeWhile_append_dropWhile]

theorem insert_items_perm (i : TxItem) (l : LinkController) : (l.insert i).items.Perm (i :: l.items) := by
  unfold LinkController.items
  rw [insert_slot]
  cases l.slot with
  | none => exact insert_queue_perm i l
  | some x => exact ((insert_queue_perm i l).cons x.item).trans (List.Perm.swap i x.item l.queue)

theorem insert_count (i : TxItem) (l : LinkController) : (l.insert i).count = l.count + 1 :=
  (insert_items_perm i l).length_eq

theorem mem_insert_items (i : TxItem) (l : LinkController) : i ∈ (l.insert i).items :=
  (insert_items_perm i l).mem_iff.mpr List.mem_cons_self

theorem remove_count_le (p : TxItem → Bool) (l : LinkController) : (l.remove p).count ≤ l.count := by
  have hq : (l.queue.filter fun i => !p i).length ≤ l.queue.length := List.length_filter_le _ _
  unfold LinkController.remove LinkController.count LinkController.items
  cases hs : l.slot with
  | none => simpa [hs] using hq
  | some x =>
    by_cases hp : p x.item = true
    · cases hx : x.sending with
      | none => simp only [hp, hx, if_true, List.length_cons]; omega
      | some y => simp only [hp, hx, if_true, List.length_cons]; omega
    · simp only [hp, List.length_cons, Bool.false_eq_true, if_false]; omega

theorem withdraw_count_le (p : TxItem → Bool) (l : LinkController) : (l.withdraw p).count ≤ l.count := by
  unfold LinkController.withdraw
  split
  · have hq : (l.queue.filter fun i => !p i).length ≤ l.queue.length := List.length_filter_le _ _
    unfold LinkController.count LinkController.items
    cases l.slot with
    | none => exact hq
    | some x => simpa using hq
  · exact remove_count_le p l

theorem send_items (i : TxItem) (f : Frame) (fault : Bool) (l : LinkController) (h : l.items.head? = some i) :
    (l.send i f fault).items = l.items := by
  unfold LinkController.send LinkController.items at *
  cases hs : l.slot with
  | none =>
    rw [hs] at h
    cases hq : l.queue with
    | nil => simp [hq] at h
    | cons a q => simp [hq] at h; simp [h]
  | some x => rw [hs] at h; simp at h; simp [h]

theorem leave_count_le (l : LinkController) : l.leave.count ≤ l.count := by
  unfold LinkController.leave LinkController.count LinkController.items
  cases l.slot <;> simp

theorem stay_items (l : LinkController) : l.stay.items = l.items := by
  unfold LinkController.stay LinkController.items
  cases l.slot <;> rfl

/-! ### Placing a frame (R32, R42) -/

namespace Work

theorem queueFrame_placed {i : TxItem} {w : Work} (h : w.canQueue i = true) :
    w.queueFrame i = w.onLink (·.insert i) := by simp [queueFrame, h]

/-- What placing a frame can do: it is placed, LINK_JAM is raised, or nothing happens. -/
theorem queueFrame_cases (i : TxItem) (w : Work) :
    w.queueFrame i = w.onLink (·.insert i) ∧ w.link.count < 12 ∨
      w.queueFrame i = w.raise (.of .linkJam (detail := i.kind.code)) ∨ w.queueFrame i = w := by
  unfold queueFrame
  by_cases h : w.canQueue i = true
  · refine Or.inl ⟨by simp [h], ?_⟩
    unfold canQueue at h
    simp only [Bool.and_eq_true, decide_eq_true_eq] at h
    exact h.1.2
  · right
    simp only [h, Bool.false_eq_true, if_false]
    split
    · exact Or.inl rfl
    · exact Or.inr rfl

/-- A frame other than MUSTER is placed wherever the mode sends frames and the queue has room. -/
theorem canQueue_of_room {i : TxItem} {w : Work} (hm : w.mode.transmits = true) (hc : w.link.count < 12)
    (hi : i.kind ≠ .muster) : w.canQueue i = true := by simp [canQueue, hm, hc, hi]

/-! ### Releases and revokes (R89, R92) -/

theorem requestRelease_placed {tag : Tag} {res : ReleaseResult} {e : ClaimEntry} {w : Work}
    (hf : w.claims.find tag = some e) (ho : e.isOwn w.own = true) (hr : e.releasePending = false)
    (hw : w.link.waits (.take tag) = false) (hm : w.mode.transmits = true) (hc : w.link.count < 12) :
    w.requestRelease tag res =
      (w.onEntry tag fun e => { e with releasePending := true }).onLink (·.insert (.release tag res)) := by
  unfold requestRelease
  rw [hf]
  simp only [ho, hr, Bool.not_false, Bool.and_true, if_true]
  have hw' : (w.onEntry tag fun e => { e with releasePending := true }).link.waits (.take tag) = false := hw
  rw [hw', when_false]
  exact queueFrame_placed (canQueue_of_room hm hc (by simp [TxItem.kind]))

theorem requestRelease_pending {tag : Tag} {res : ReleaseResult} {e : ClaimEntry} {w : Work}
    (hf : w.claims.find tag = some e) (hr : e.releasePending = true) : w.requestRelease tag res = w := by
  unfold requestRelease
  rw [hf]
  simp [hr]

theorem requestRevoke_idle {tag : Tag} {reason : Reason} {e : ClaimEntry} {w : Work}
    (hf : w.claims.find tag = some e) (hc : e.consent = false ∨ e.revokeQueued = true) :
    w.requestRevoke tag reason = w := by
  unfold requestRevoke
  rw [hf]
  rcases hc with h | h <;> simp [h]

theorem revokeEach_none {p : ClaimEntry → Bool} {reason : Reason} {w : Work}
    (h : ∀ e ∈ w.claims.table, p e = false) : w.revokeEach p reason = w := by
  unfold revokeEach
  have key : ∀ (l : List ClaimEntry) (v : Work), (∀ e ∈ l, p e = false) →
      l.foldl (fun w e => if p e = true then w.requestRevoke e.tag reason else w) v = v := by
    intro l
    induction l with
    | nil => exact fun _ _ => rfl
    | cons e l ih =>
      intro v hl
      rw [List.foldl_cons, hl e List.mem_cons_self]
      exact ih v fun x hx => hl x (List.mem_cons_of_mem e hx)
  exact key _ w h

/-! ### The claim table (R75) -/

/-- An update of the entries with a tag leaves each entry's tag and kind alone where the update does. -/
theorem onEntry_tags {t : Tag} {f : ClaimEntry → ClaimEntry} {w : Work} (h : ∀ e, (f e).tag = e.tag) :
    (w.onEntry t f).claims.table.map (·.tag) = w.claims.table.map (·.tag) := by
  unfold onEntry
  rw [onClaims_claims, List.map_map]
  refine List.map_congr_left fun e _ => ?_
  by_cases he : e.tag = t <;> simp [he, h]

end Work

/-! ### The trip record (R160, R161) -/

theorem dropOldestPeer_length (l : List TripEntry) (h : l.any (fun e => !e.isLocal) = true) :
    (dropOldestPeer l).length + 1 = l.length := by
  induction l with
  | nil => simp at h
  | cons e l ih =>
    unfold dropOldestPeer
    cases he : e.isLocal with
    | true =>
      rw [List.any_cons, he] at h
      simp only [Bool.not_true, Bool.false_or] at h
      simp [ih h]
    | false => simp

theorem enterTrip_length (e : TripEntry) (l : List TripEntry) (h : l.length ≤ 4) : (enterTrip e l).1.length ≤ 4 := by
  unfold enterTrip
  split
  · exact h
  · split
    · simp only [List.length_append, List.length_singleton]; omega
    · split
      · rename_i hp
        have := dropOldestPeer_length l (Bool.and_eq_true _ _ ▸ hp).2
        simp only [List.length_append, List.length_singleton]; omega
      · exact h

/-! ### The segment queue (R122, R137, R139) -/

theorem cut_length_le {a b : Nat} (q : List Segment) (h : a ≤ b) : (cut a b q).length ≤ q.length := by
  unfold cut
  simp only [List.length_append, List.length_take, List.length_drop]
  omega

theorem complete_length_le (i : Nat) (e : SegmentEngine) : (e.complete i).queue.length ≤ e.queue.length := by
  unfold SegmentEngine.complete
  split
  · exact Nat.le_of_eq (List.length_modify _ _ _)
  · exact List.length_eraseIdx_le _ _

/-! ### The open MARK (R123, R125) -/

theorem openMarkFrom_append (q : List Segment) (x : Segment) (i : Nat) (m : Option Nat) :
    openMarkFrom i m (q ++ [x]) =
      match x.body with
      | .mark => some (i + q.length)
      | .again _ _ => none
      | .ramp _ _ | .level _ _ | .dwell _ => openMarkFrom i m q := by
  induction q generalizing i m with
  | nil => cases hx : x.body <;> simp [openMarkFrom, hx]
  | cons y q ih =>
    cases hy : y.body <;> simp only [List.cons_append, openMarkFrom, hy, ih, List.length_cons] <;>
      cases x.body <;> simp <;> omega

/-- The open MARK after one more segment at the tail (R123, R125). -/
theorem openMark_append (q : List Segment) (x : Segment) :
    openMark (q ++ [x]) =
      match x.body with
      | .mark => some q.length
      | .again _ _ => none
      | .ramp _ _ | .level _ _ | .dwell _ => openMark q := by
  simp [openMark, openMarkFrom_append]

theorem openMark_lt {q : List Segment} {m : Nat} (h : openMark q = some m) : m < q.length := by
  induction q using List.reverseRecOn with
  | nil => simp [openMark, openMarkFrom] at h
  | append_singleton q x ih =>
    rw [openMark_append] at h
    cases hx : x.body <;> simp [hx] at h <;> first | (simp; omega) | (have := ih h; simp; omega)

/-- The open MARK stands at the tail exactly where the tail is a MARK. -/
theorem openMark_tail {q : List Segment} {m : Nat} (h : openMark q = some m) :
    m + 1 = q.length ↔ ∃ x, q.getLast? = some x ∧ x.body = .mark := by
  induction q using List.reverseRecOn with
  | nil => simp [openMark, openMarkFrom] at h
  | append_singleton q x ih =>
    rw [openMark_append] at h
    cases hx : x.body <;> simp [hx] at h ⊢ <;> first | omega | (have := openMark_lt h; omega)

/-- A MARK is open where no REPEAT follows it (R123). -/
theorem openMark_isSome (q : List Segment) :
    (openMark q).isSome = true ↔ ∃ (i : Nat) (x : Segment), q[i]? = some x ∧ x.body = .mark ∧
      ∀ (j : Nat) (y : Segment), i < j → q[j]? = some y → ∀ base current, y.body ≠ .again base current := by
  induction q using List.reverseRecOn with
  | nil => simp [openMark, openMarkFrom]
  | append_singleton q z ih =>
    have hz : (q ++ [z])[q.length]? = some z := by simp
    have keep : (∀ base current, z.body ≠ .again base current) → z.body ≠ .mark →
        ((∃ (i : Nat) (x : Segment), (q ++ [z])[i]? = some x ∧ x.body = .mark ∧
          ∀ (j : Nat) (y : Segment), i < j → (q ++ [z])[j]? = some y → ∀ base current, y.body ≠ .again base current) ↔
        ∃ (i : Nat) (x : Segment), q[i]? = some x ∧ x.body = .mark ∧
          ∀ (j : Nat) (y : Segment), i < j → q[j]? = some y → ∀ base current, y.body ≠ .again base current) := by
      intro ha hm
      constructor
      · rintro ⟨i, x, hi, hx, hj⟩
        rcases Nat.lt_trichotomy i q.length with h | h | h
        · rw [List.getElem?_append_left h] at hi
          refine ⟨i, x, hi, hx, fun j y hij hy => hj j y hij ?_⟩
          rw [List.getElem?_append_left (List.getElem?_eq_some_iff.mp hy).1]; exact hy
        · subst h; rw [hz] at hi; cases hi; exact absurd hx hm
        · rw [List.getElem?_eq_none (by simp; omega)] at hi; cases hi
      · rintro ⟨i, x, hi, hx, hj⟩
        have h := (List.getElem?_eq_some_iff.mp hi).1
        refine ⟨i, x, by rw [List.getElem?_append_left h]; exact hi, hx, fun j y hij hy => ?_⟩
        rcases Nat.lt_trichotomy j q.length with h | h | h
        · rw [List.getElem?_append_left h] at hy; exact hj j y hij hy
        · subst h; rw [hz] at hy; cases hy; exact ha
        · rw [List.getElem?_eq_none (by simp; omega)] at hy; cases hy
    rw [openMark_append]
    cases hb : z.body with
    | mark =>
      simp only [Option.isSome_some, true_iff]
      refine ⟨q.length, z, hz, hb, fun j y hij hy => ?_⟩
      rw [List.getElem?_eq_none (by simp; omega)] at hy; cases hy
    | again base current =>
      simp only [Option.isSome_none, Bool.false_eq_true, false_iff]
      rintro ⟨i, x, hi, hx, hj⟩
      have h := (List.getElem?_eq_some_iff.mp hi).1
      rcases Nat.lt_or_ge i q.length with h' | h'
      · exact hj q.length z h' hz base current hb
      · have : i = q.length := by simp at h; omega
        subst this; rw [hz] at hi; cases hi; rw [hb] at hx; cases hx
    | ramp a b => rw [keep (by simp [hb]) (by simp [hb])]; exact ih
    | level a b => rw [keep (by simp [hb]) (by simp [hb])]; exact ih
    | dwell a => rw [keep (by simp [hb]) (by simp [hb])]; exact ih

/-! ### Ramps, limits, envelopes (R112, R113, R165) -/

theorem limitTo_between {low high : Int} (h : low ≤ high) (v : Int) :
    low ≤ limitTo low high v ∧ limitTo low high v ≤ high := by unfold limitTo; omega

theorem moveToward_zero_between (v step : Int) (h : 0 ≤ step) :
    (0 ≤ v → 0 ≤ moveToward v 0 step ∧ moveToward v 0 step ≤ v) ∧
      (v ≤ 0 → v ≤ moveToward v 0 step ∧ moveToward v 0 step ≤ 0) := by
  unfold moveToward
  split <;> constructor <;> intro hv <;> omega

/-- From within the envelope the next demand lies within it. -/
theorem nextDemand_within {env : Int × Int} {target rate demand : Int} (h : 1000 * env.1 ≤ demand)
    (k : demand ≤ 1000 * env.2) :
    1000 * env.1 ≤ nextDemand env target rate demand ∧ nextDemand env target rate demand ≤ 1000 * env.2 := by
  unfold nextDemand
  rw [if_pos ⟨h, k⟩]
  exact limitTo_between (le_trans h k) target

/-- From outside the envelope the demand does not pass its nearer end, and does not move away from it. -/
theorem nextDemand_withdraws {env : Int × Int} {target rate demand : Int} (hr : 0 ≤ rate) :
    (demand < 1000 * env.1 → demand ≤ nextDemand env target rate demand ∧
        nextDemand env target rate demand ≤ 1000 * env.1) ∧
      (1000 * env.1 ≤ demand → 1000 * env.2 < demand → nextDemand env target rate demand ≤ demand ∧
        1000 * env.2 ≤ nextDemand env target rate demand) := by
  unfold nextDemand
  constructor
  · intro h
    simp only [show ¬ (1000 * env.1 ≤ demand ∧ demand ≤ 1000 * env.2) by omega, h, if_true, if_false]
    omega
  · intro h k
    simp only [show ¬ (1000 * env.1 ≤ demand ∧ demand ≤ 1000 * env.2) by omega, not_lt.mpr h, if_false]
    omega

/-- The turned angle stays within its range (R144). -/
theorem turnedAfter_le (disengage : Bool) (moved : Int) (angle : Nat) :
    turnedAfter disengage moved angle ≤ 90000000 := min_le_left _ _

/-- A value lies in the intersection of ranges exactly where it lies in each (R112). -/
theorem mem_foldl_meetRange (l : List (Int × Int)) (a : Int × Int) (v : Int) :
    ((l.foldl meetRange a).1 ≤ v ∧ v ≤ (l.foldl meetRange a).2) ↔
      (a.1 ≤ v ∧ v ≤ a.2) ∧ ∀ b ∈ l, b.1 ≤ v ∧ v ≤ b.2 := by
  induction l generalizing a with
  | nil => simp
  | cons b l ih =>
    rw [List.foldl_cons, ih]
    simp only [List.mem_cons, forall_eq_or_imp, meetRange]
    constructor <;> rintro ⟨⟨h1, h2⟩, h⟩
    · exact ⟨by omega, by omega, h⟩
    · exact ⟨by omega, h.2⟩

/-- The intersection of ranges that all contain the rest value contains it (R112). -/
theorem foldl_meetRange_rest (l : List (Int × Int)) (a : Int × Int) (ha : a.1 ≤ 0 ∧ 0 ≤ a.2)
    (hl : ∀ b ∈ l, b.1 ≤ 0 ∧ 0 ≤ b.2) : (l.foldl meetRange a).1 ≤ 0 ∧ 0 ≤ (l.foldl meetRange a).2 :=
  (mem_foldl_meetRange l a 0).mpr ⟨ha, hl⟩

/-- There is a nearest pocket exactly where some pocket lies within the window (R11, R101). -/
theorem nearestPocket_isSome (g : Image) (k : Nat) (ext : Int) :
    (nearestPocket g k ext).isSome = true ↔
      ∃ i, i < g.pocketCount k ∧ g.pocket k i - ext ≤ g.window ∧ ext - g.pocket k i ≤ g.window := by
  have grows : ∀ (f : Option Nat → Nat → Option Nat) (near : Nat → Prop),
      (∀ best i, (f best i).isSome = true ↔ best.isSome = true ∨ near i) → ∀ (l : List Nat) (best : Option Nat),
      (l.foldl f best).isSome = true ↔ best.isSome = true ∨ ∃ i ∈ l, near i := by
    intro f near hf l
    induction l with
    | nil => simp
    | cons i l ih => intro best; rw [List.foldl_cons, ih, hf]; simp [or_assoc]
  unfold nearestPocket
  rw [grows _ fun i => g.pocket k i - ext ≤ g.window ∧ ext - g.pocket k i ≤ g.window]
  · simp only [Option.isSome_none, Bool.false_eq_true, false_or, List.mem_range]
  · intro best i
    have near : ¬ g.window < ((g.pocket k i - ext).natAbs : Int) ↔
        g.pocket k i - ext ≤ g.window ∧ ext - g.pocket k i ≤ g.window := by omega
    rw [← near]
    dsimp only
    split
    next h => simp only [h, not_true_eq_false, or_false]
    next h =>
      cases best with
      | none => simp only [Option.isSome_some, h, not_false_eq_true, or_true]
      | some j => dsimp only; split <;> simp only [Option.isSome_some, true_or]

/-- The nearest pocket is within the window, as near as any, and the lowest of those equally near (R19). -/
theorem nearestPocket_eq_some (g : Image) (k : Nat) (ext : Int) (p : Nat) :
    nearestPocket g k ext = some p ↔
      p < g.pocketCount k ∧ ((g.pocket k p - ext).natAbs : Int) ≤ g.window ∧
        ∀ i, i < g.pocketCount k → (g.pocket k p - ext).natAbs < (g.pocket k i - ext).natAbs ∨
          ((g.pocket k p - ext).natAbs = (g.pocket k i - ext).natAbs ∧ p ≤ i) := by
  unfold nearestPocket
  generalize hd : (fun i => (g.pocket k i - ext).natAbs) = d
  have e : ∀ i, (g.pocket k i - ext).natAbs = d i := fun i => congrFun hd i
  simp only [e]
  suffices h : ∀ n, (∀ p, (List.range n).foldl (fun best i => if g.window < (d i : Int) then best else
        match best with
        | some j => if d i < d j then some i else best
        | none => some i) none = some p ↔
      p < n ∧ (d p : Int) ≤ g.window ∧ ∀ i, i < n → d p < d i ∨ (d p = d i ∧ p ≤ i)) ∧
      ((List.range n).foldl (fun best i => if g.window < (d i : Int) then best else
        match best with
        | some j => if d i < d j then some i else best
        | none => some i) none = none ↔ ∀ i, i < n → g.window < (d i : Int)) from (h _).1 p
  intro n
  induction n with
  | zero => simp
  | succ n ih =>
    rw [List.range_succ, List.foldl_append, List.foldl_cons, List.foldl_nil]
    generalize (List.range n).foldl _ none = best at ih ⊢
    obtain ⟨ih, ihn⟩ := ih
    cases best with
    | none =>
      have far := ihn.mp rfl
      split
      next h =>
        refine ⟨fun p => ⟨fun h => (nomatch h), fun ⟨hp, hw, _⟩ => ?_⟩, ?_⟩
        · rcases Nat.lt_succ_iff_lt_or_eq.mp hp with hp | rfl
          · have := far p hp; omega
          · omega
        · simp only [true_iff]; intro i hi
          rcases Nat.lt_succ_iff_lt_or_eq.mp hi with hi | rfl
          · exact far i hi
          · exact h
      next h =>
        refine ⟨fun p => ?_, ⟨fun h => (nomatch h), fun hf => absurd (hf n (Nat.lt_succ_self n)) h⟩⟩
        simp only [Option.some.injEq]
        constructor
        · rintro rfl
          refine ⟨Nat.lt_succ_self _, by omega, fun i hi => ?_⟩
          rcases Nat.lt_succ_iff_lt_or_eq.mp hi with hi | rfl
          · have := far i hi; omega
          · exact Or.inr ⟨rfl, le_refl _⟩
        · rintro ⟨hp, hw, _⟩
          rcases Nat.lt_succ_iff_lt_or_eq.mp hp with hp | rfl
          · have := far p hp; omega
          · rfl
    | some j =>
      have hj := (ih j).mp rfl
      have uniq : ∀ p, (some j = some p ↔ _) := ih
      split
      next h =>
        refine ⟨fun p => ?_, ⟨fun h => (nomatch h), fun hf => ?_⟩⟩
        · rw [uniq]
          constructor
          · rintro ⟨hp, hw, hi⟩
            refine ⟨by omega, hw, fun i hi' => ?_⟩
            rcases Nat.lt_succ_iff_lt_or_eq.mp hi' with hi' | rfl
            · exact hi i hi'
            · omega
          · rintro ⟨hp, hw, hi⟩
            have : p ≠ n := by rintro rfl; omega
            exact ⟨by omega, hw, fun i hi' => hi i (by omega)⟩
        · have := hf j (by omega); omega
      next h =>
        dsimp only
        split
        next hlt =>
          refine ⟨fun p => ?_, ⟨fun h => (nomatch h), fun hf => ?_⟩⟩
          · simp only [Option.some.injEq]
            constructor
            · rintro rfl
              refine ⟨Nat.lt_succ_self _, by omega, fun i hi => ?_⟩
              rcases Nat.lt_succ_iff_lt_or_eq.mp hi with hi | rfl
              · have := hj.2.2 i hi; omega
              · exact Or.inr ⟨rfl, le_refl _⟩
            · rintro ⟨hp, hw, hi⟩
              have := hi n (Nat.lt_succ_self n)
              rcases Nat.lt_succ_iff_lt_or_eq.mp hp with hp | rfl
              · have := hj.2.2 p hp; have := hi n (Nat.lt_succ_self n); omega
              · rfl
          · have := hf j (by omega); omega
        next hle =>
          refine ⟨fun p => ?_, ⟨fun h => (nomatch h), fun hf => ?_⟩⟩
          · rw [uniq]
            constructor
            · rintro ⟨hp, hw, hi⟩
              have hpj : some j = some p := (uniq p).mpr ⟨hp, hw, hi⟩
              cases hpj
              refine ⟨by omega, hw, fun i hi' => ?_⟩
              rcases Nat.lt_succ_iff_lt_or_eq.mp hi' with hi' | rfl
              · exact hi i hi'
              · omega
            · rintro ⟨hp, hw, hi⟩
              have : p ≠ n := by rintro rfl; have := hi j (by omega); omega
              exact ⟨by omega, hw, fun i hi' => hi i (by omega)⟩
          · have := hf j (by omega); omega

end Sys2Proof.Machine
end

