-- ==== Sys2Proof/Laws/Keep.lean ====
section
/-! SUPPORT. What no shared operation touches: the image, the straps, the held reset, the axis inputs and the STOP pin,
the Host Port, the stamp, the free-value counter and the queue of commands. Only the clock's tick, the reading of the
inputs and the commands of the host and of the resets change any of them. -/

namespace Sys2Proof.Machine

/-- The parts of a command's work that the shared operations leave as they are. -/
def Work.fixed (w : Work) :
    (Image × Straps × Bool × BitVec 3 × ResetKind) × (AxisInput × AxisInput × AxisInput × Bool) ×
      HostPort × Word16 × Nat × List Instr :=
  ((w.image, w.muster.straps, w.muster.resetHeld, w.muster.resetCauses, w.muster.startKind),
    (w.axis.primary, w.axis.secondary, w.axis.position, w.axis.stopPin), w.host, w.stamp, w.freeCount, w.pending)

namespace Work

/-! ### The named updates -/

@[simp] theorem setMode_fixed (m : Mode) (w : Work) : (w.setMode m).fixed = w.fixed := rfl
@[simp] theorem onLink_fixed (f : LinkController → LinkController) (w : Work) : (w.onLink f).fixed = w.fixed := rfl
@[simp] theorem onPeers_fixed (f : Eight PeerEntry → Eight PeerEntry) (w : Work) :
    (w.onPeers f).fixed = w.fixed := rfl
@[simp] theorem onPeer_fixed (s : Station) (f : PeerEntry → PeerEntry) (w : Work) :
    (w.onPeer s f).fixed = w.fixed := rfl
@[simp] theorem onClaims_fixed (f : ClaimEngine → ClaimEngine) (w : Work) : (w.onClaims f).fixed = w.fixed := rfl
@[simp] theorem onEntry_fixed (t : Tag) (f : ClaimEntry → ClaimEntry) (w : Work) :
    (w.onEntry t f).fixed = w.fixed := rfl
@[simp] theorem onStrings_fixed (f : StringTracker → StringTracker) (w : Work) :
    (w.onStrings f).fixed = w.fixed := rfl
@[simp] theorem onEnvelope_fixed (f : EnvelopeUnit → EnvelopeUnit) (w : Work) :
    (w.onEnvelope f).fixed = w.fixed := rfl
@[simp] theorem onSegments_fixed (f : SegmentEngine → SegmentEngine) (w : Work) :
    (w.onSegments f).fixed = w.fixed := rfl
@[simp] theorem onLockTurn_fixed (f : LockTurnUnit → LockTurnUnit) (w : Work) :
    (w.onLockTurn f).fixed = w.fixed := rfl
@[simp] theorem onTrips_fixed (f : TripController → TripController) (w : Work) : (w.onTrips f).fixed = w.fixed := rfl
@[simp] theorem post_fixed (b : Block) (e : Event) (w : Work) : (w.post b e).fixed = w.fixed := rfl
@[simp] theorem raise_fixed (c : CauseReport) (w : Work) : (w.raise c).fixed = w.fixed := rfl
@[simp] theorem touch_fixed (n : Nat) (w : Work) : (w.touch n).fixed = w.fixed := rfl

theorem when_fixed {b : Bool} {f : Work → Work} {w : Work} (h : (f w).fixed = w.fixed) :
    (w.when b f).fixed = w.fixed := by
  cases b
  · rfl
  · exact h

theorem foldl_fixed {α : Type} {f : Work → α → Work} (h : ∀ w a, (f w a).fixed = w.fixed) (l : List α) (w : Work) :
    (l.foldl f w).fixed = w.fixed := by
  induction l generalizing w with
  | nil => rfl
  | cons a l ih => exact (ih (f w a)).trans (h w a)

/-! ### Frames, releases, revokes -/

@[simp] theorem queueFrame_fixed (i : TxItem) (w : Work) : (w.queueFrame i).fixed = w.fixed := by
  rcases queueFrame_cases i w with ⟨h, -⟩ | h | h <;> rw [h] <;> rfl

@[simp] theorem requestRelease_fixed (tag : Tag) (res : ReleaseResult) (w : Work) :
    (w.requestRelease tag res).fixed = w.fixed := by
  unfold requestRelease
  split
  · split
    · rw [queueFrame_fixed]
      exact (when_fixed rfl).trans rfl
    · rfl
  · rfl

@[simp] theorem requestRevoke_fixed (tag : Tag) (reason : Reason) (w : Work) :
    (w.requestRevoke tag reason).fixed = w.fixed := by
  unfold requestRevoke
  split
  · split
    · exact (when_fixed rfl).trans (queueFrame_fixed _ _)
    · rfl
  · rfl

@[simp] theorem revokeEach_fixed (p : ClaimEntry → Bool) (reason : Reason) (w : Work) :
    (w.revokeEach p reason).fixed = w.fixed :=
  foldl_fixed (fun w e => by split <;> simp) _ _

/-! ### The String Tracker -/

@[simp] theorem requestString_fixed (w : Work) : w.requestString.fixed = w.fixed := by
  unfold requestString
  split
  · exact (when_fixed rfl).trans (queueFrame_fixed _ _)
  · rfl

@[simp] theorem findMismatch_fixed (w : Work) : w.findMismatch.fixed = w.fixed := by
  unfold findMismatch; split <;> rfl

@[simp] theorem judgeMismatch_fixed (found : Bool) (w : Work) : (w.judgeMismatch found).fixed = w.fixed := by
  unfold judgeMismatch; split <;> simp

@[simp] theorem storeRecord_fixed (old new : StringRecord) (recomputed : Bool) (w : Work) :
    (w.storeRecord old new recomputed).fixed = w.fixed := by
  unfold storeRecord
  split
  · simp
  · exact (when_fixed (requestString_fixed _)).trans rfl

@[simp] theorem changeRecord_fixed (f : StringRecord → StringRecord) (w : Work) :
    (w.changeRecord f).fixed = w.fixed := by
  unfold changeRecord
  split
  · dsimp only; split <;> simp
  · rfl

@[simp] theorem recompute_fixed (w : Work) : w.recompute.fixed = w.fixed := by
  unfold recompute
  split
  · split <;> simp
  · rfl

@[simp] theorem recordPresent_fixed (w : Work) : w.recordPresent.fixed = w.fixed := by simp [recordPresent]

@[simp] theorem recordUncertain_fixed (w : Work) : w.recordUncertain.fixed = w.fixed := by
  unfold recordUncertain
  split
  · split <;> simp
  · rfl

@[simp] theorem applyStart_fixed (r : StringRecord) (w : Work) : (w.applyStart r).fixed = w.fixed := by
  unfold applyStart
  rw [storeRecord_fixed]
  exact (when_fixed (findMismatch_fixed _)).trans rfl

@[simp] theorem crowdBeacon_fixed (sledge : Int) (became : Bool) (w : Work) :
    (w.crowdBeacon sledge became).fixed = w.fixed := by
  unfold crowdBeacon
  dsimp only
  repeat' split
  all_goals simp

@[simp] theorem applyLockResult_fixed (k : Nat) (disengage : Bool) (res : ReleaseResult) (w : Work) :
    (w.applyLockResult k disengage res).fixed = w.fixed := by
  unfold applyLockResult
  split
  · rw [changeRecord_fixed]
    exact when_fixed (findMismatch_fixed _)
  · rfl

@[simp] theorem markDoubtful_fixed (k : Nat) (w : Work) : (w.markDoubtful k).fixed = w.fixed := by
  unfold markDoubtful; split <;> simp

@[simp] theorem unkey_fixed (w : Work) : w.unkey.fixed = w.fixed := by
  unfold unkey
  split
  · dsimp only; split <;> simp
  · rfl

@[simp] theorem judgeSlack_fixed (slack : Int) (w : Work) : (w.judgeSlack slack).fixed = w.fixed := by
  unfold judgeSlack
  repeat' split
  all_goals rfl

@[simp] theorem slackStep_fixed (r : StringRecord) (w : Work) : (w.slackStep r).fixed = w.fixed := by
  unfold slackStep
  split
  · simp only [judgeSlack_fixed, onStrings_fixed]
    exact when_fixed rfl
  · rfl

@[simp] theorem stringStep_fixed (w : Work) : w.stringStep.fixed = w.fixed := by
  unfold stringStep; split <;> simp

/-! ### Segments, lock turns, endings -/

@[simp] theorem abandonSegment_fixed (tag : Tag) (w : Work) : (w.abandonSegment tag).fixed = w.fixed := by
  unfold abandonSegment
  repeat' split
  all_goals rfl

@[simp] theorem flushSegments_fixed (cause : Nat) (w : Work) : (w.flushSegments cause).fixed = w.fixed :=
  when_fixed rfl

@[simp] theorem demandTimerStep_fixed (w : Work) : w.demandTimerStep.fixed = w.fixed := by
  unfold demandTimerStep
  repeat' split
  all_goals rfl

@[simp] theorem segmentStep_fixed (w : Work) : w.segmentStep.fixed = w.fixed := by
  unfold segmentStep
  split
  · dsimp only
    rw [demandTimerStep_fixed, onSegments_fixed]
    exact (when_fixed rfl).trans rfl
  · rfl

@[simp] theorem beginTurn_fixed (tag : Tag) (sec : Nat) (disengage : Bool) (w : Work) :
    (w.beginTurn tag sec disengage).fixed = w.fixed := rfl

@[simp] theorem rotaryHeld_fixed (e : ClaimEntry) (w : Work) : (w.rotaryHeld e).fixed = w.fixed := by
  unfold rotaryHeld
  split
  · dsimp only; split <;> rfl
  · rfl

@[simp] theorem clearReverse_fixed (w : Work) : w.clearReverse.fixed = w.fixed :=
  (onLockTurn_fixed _ _).trans (when_fixed rfl)

@[simp] theorem findResult_fixed (turn : Turn) (res : ReleaseResult) (w : Work) :
    (w.findResult turn res).fixed = w.fixed := by
  unfold findResult
  simp only [requestRelease_fixed, post_fixed, onLockTurn_fixed]
  exact when_fixed (clearReverse_fixed w)

@[simp] theorem stoppingRamp_fixed (w : Work) : w.stoppingRamp.fixed = w.fixed := when_fixed rfl

@[simp] theorem settlingStep_fixed (turn : Turn) (w : Work) : (w.settlingStep turn).fixed = w.fixed := by
  unfold settlingStep
  dsimp only
  split
  · simp
  · exact (when_fixed rfl).trans rfl

@[simp] theorem turningStep_fixed (turn : Turn) (w : Work) : (w.turningStep turn).fixed = w.fixed := by
  unfold turningStep
  dsimp only
  split <;> simp

@[simp] theorem reverseStep_fixed (w : Work) : w.reverseStep.fixed = w.fixed := (when_fixed rfl).trans rfl

@[simp] theorem lockTurnStep_fixed (w : Work) : w.lockTurnStep.fixed = w.fixed := by
  unfold lockTurnStep
  split
  · rw [reverseStep_fixed]; split <;> simp
  · rfl

@[simp] theorem setStall_fixed (tag : Tag) (w : Work) : (w.setStall tag).fixed = w.fixed := rfl

@[simp] theorem countStall_fixed (torque : Int) (w : Work) : (w.countStall torque).fixed = w.fixed := by
  unfold countStall
  repeat' split
  all_goals first | rfl | exact (when_fixed rfl).trans rfl

@[simp] theorem clearStall_fixed (tag : Tag) (w : Work) : (w.clearStall tag).fixed = w.fixed := when_fixed rfl

@[simp] theorem endTurn_fixed (tag : Tag) (lost : Nat) (result : Option ReleaseResult) (w : Work) :
    (w.endTurn tag lost result).fixed = w.fixed := by
  unfold endTurn
  split
  · split
    · exact (onLockTurn_fixed _ _).trans (when_fixed rfl)
    · rfl
  · rfl

@[simp] theorem lockTurnEnded_fixed (e : ClaimEntry) (how : Removal) (w : Work) :
    (w.lockTurnEnded e how).fixed = w.fixed := by
  unfold lockTurnEnded
  repeat' split
  all_goals first | exact when_fixed (markDoubtful_fixed _ _) | simp

@[simp] theorem crowdEnded_fixed (e : ClaimEntry) (w : Work) : (w.crowdEnded e).fixed = w.fixed := when_fixed rfl

@[simp] theorem rotaryEnded_fixed (e : ClaimEntry) (how : Removal) (w : Work) :
    (w.rotaryEnded e how).fixed = w.fixed :=
  when_fixed ((when_fixed (clearStall_fixed _ _)).trans (endTurn_fixed _ _ _ _))

@[simp] theorem segmentsEnded_fixed (e : ClaimEntry) (how : Removal) (w : Work) :
    (w.segmentsEnded e how).fixed = w.fixed :=
  when_fixed ((when_fixed (flushSegments_fixed _ _)).trans (abandonSegment_fixed _ _))

@[simp] theorem entryEnded_fixed (e : ClaimEntry) (how : Removal) (w : Work) :
    (w.entryEnded e how).fixed = w.fixed := by
  unfold entryEnded
  exact (when_fixed (lockTurnEnded_fixed _ _ _)).trans (by simp)

@[simp] theorem removeEntry_fixed (e : ClaimEntry) (how : Removal) (w : Work) :
    (w.removeEntry e how).fixed = w.fixed := by
  unfold removeEntry purgeAnswers dropEntry
  simp

@[simp] theorem voidTable_fixed (w : Work) : w.voidTable.fixed = w.fixed := by
  unfold voidTable
  refine (foldl_fixed (f := fun w t => w.post .claimEngine (.of .claimWithdrawn (tag := some t) (code := 0)))
    (fun w t => rfl) _ _).trans ?_
  refine (when_fixed rfl).trans ?_
  exact (foldl_fixed (f := fun w e => w.entryEnded e .voided) (fun w e => entryEnded_fixed e _ w) _ _).trans rfl

/-! ### The Trip Controller -/

@[simp] theorem setAtRest_fixed (w : Work) : w.setAtRest.fixed = w.fixed := rfl

@[simp] theorem postTrip_fixed (o : Station) (c : Cause) (tag : Option Tag) (d : Disposition) (m : Mode) (w : Work) :
    (w.postTrip o c tag d m).fixed = w.fixed := rfl

@[simp] theorem recordTrip_fixed (e : TripEntry) (tag : Option Tag) (m : Mode) (w : Work) :
    (w.recordTrip e tag m).fixed = w.fixed := rfl

@[simp] theorem completeSafeDown_fixed (w : Work) : w.completeSafeDown.fixed = w.fixed := rfl

theorem enterSafeDown_fixed {tell : Work → Work} (h : ∀ w, (tell w).fixed = w.fixed) (w : Work) :
    (w.enterSafeDown tell).fixed = w.fixed := by
  unfold enterSafeDown
  refine (when_fixed (completeSafeDown_fixed _)).trans ?_
  simp [h]

@[simp] theorem enterLockout_fixed (c : Cause) (w : Work) : (w.enterLockout c).fixed = w.fixed := by
  simp [enterLockout]

@[simp] theorem tellSafed_fixed (c : Cause) (w : Work) : (w.tellSafed c).fixed = w.fixed := by
  unfold tellSafed; split <;> simp

@[simp] theorem takeCause_fixed (c : CauseReport) (w : Work) : (w.takeCause c).fixed = w.fixed := by
  unfold takeCause
  dsimp only
  split
  case h_6 => split <;> [skip; split] <;> simp
  all_goals simp [enterSafeDown_fixed]

@[simp] theorem receiveTrip_fixed (o : Station) (c : Cause) (w : Work) : (w.receiveTrip o c).fixed = w.fixed := by
  unfold receiveTrip
  dsimp only
  split
  all_goals simp [enterSafeDown_fixed]

@[simp] theorem takeClear_fixed (w : Work) : w.takeClear.fixed = w.fixed := by
  unfold takeClear
  dsimp only
  repeat' split
  all_goals exact when_fixed rfl

@[simp] theorem countRest_fixed (atRest : Bool) (w : Work) : (w.countRest atRest).fixed = w.fixed := by
  unfold countRest
  repeat' split
  all_goals rfl

@[simp] theorem settleFor_fixed (n : Nat) (w : Work) : (w.settleFor n).fixed = w.fixed := by
  induction n generalizing w with
  | zero => rfl
  | succ n ih =>
    unfold settleFor
    split
    · rfl
    · rw [ih, takeCause_fixed]; rfl

@[simp] theorem settle_fixed (w : Work) : w.settle.fixed = w.fixed := settleFor_fixed 64 w

@[simp] theorem sync_fixed (old : State) (w : Work) : (w.sync old).fixed = w.fixed := by
  unfold sync
  have hc : ∀ w : Work, (w.syncCopy old).fixed = w.fixed := fun w => by unfold syncCopy; split <;> rfl
  have hp : ∀ w : Work, (w.syncPermit old).fixed = w.fixed := fun w => when_fixed rfl
  have hs : ∀ w : Work, (w.syncStarvation old).fixed = w.fixed := fun w => by
    unfold syncStarvation
    repeat' split
    all_goals rfl
  rw [hs, hp, hc]

/-! ### The Envelope Unit and the watch list -/

@[simp] theorem holdStep_fixed (w : Work) : w.holdStep.fixed = w.fixed := when_fixed (by simp)

@[simp] theorem followStep_fixed (w : Work) : w.followStep.fixed = w.fixed := by
  unfold followStep
  split
  · exact (onEnvelope_fixed _ _).trans (when_fixed rfl)
  · exact when_fixed rfl

@[simp] theorem keyedBegins_fixed (w : Work) : w.keyedBegins.fixed = w.fixed := when_fixed rfl

@[simp] theorem reliefStep_fixed (w : Work) : w.reliefStep.fixed = w.fixed := when_fixed rfl

@[simp] theorem envelopeStep_fixed (w : Work) : w.envelopeStep.fixed = w.fixed := by simp [envelopeStep]

@[simp] theorem demandStep_fixed (before : Mode) (w : Work) : (w.demandStep before).fixed = w.fixed := by
  unfold demandStep
  repeat' split
  all_goals first | rfl | exact when_fixed rfl

@[simp] theorem outputStep_fixed (w : Work) : w.outputStep.fixed = w.fixed := rfl

@[simp] theorem limitStep_fixed (w : Work) : w.limitStep.fixed = w.fixed := by
  unfold limitStep
  repeat' split
  all_goals rfl

@[simp] theorem sampleStop_fixed (level : Bool) (w : Work) : (w.sampleStop level).fixed = w.fixed := by
  unfold sampleStop
  repeat' split
  all_goals rfl

@[simp] theorem gateBegins_fixed (i : Fin 8) (w : Work) : (w.gateBegins i).fixed = w.fixed := by
  unfold gateBegins
  refine (foldl_fixed (fun w e => ?_) _ _).trans (by simp)
  split <;> simp

@[simp] theorem gateEnds_fixed (w : Work) : w.gateEnds.fixed = w.fixed := when_fixed rfl

@[simp] theorem matchBegun_fixed (s : Station) (i : Fin 8) (w : Work) : (w.matchBegun s i).fixed = w.fixed := by
  unfold matchBegun
  split
  · simp
  · rfl
  · exact when_fixed (gateBegins_fixed _ _)
  · rfl

@[simp] theorem watch_fixed (s : Station) (b : BeaconRecord) (w : Work) : (w.watch s b).fixed = w.fixed := by
  unfold watch
  rw [gateEnds_fixed]
  exact (foldl_fixed (fun w i => when_fixed (matchBegun_fixed s i w)) _ _).trans rfl

end Work

end Sys2Proof.Machine
end

