-- ==== Sys2Proof/Laws/Endings.lean ====
section
/-! SUPPORT. What the leaving of an entry, the voiding of the table and the entries into SAFE_DOWN, SAFED and LOCKOUT do:
the parts they cannot touch, and what they leave (R90 to R95, R114, R140, R163, R166, R168). -/

namespace Sys2Proof.Machine

/-- The parts that what follows the leaving of an entry does not touch. -/
def Work.apart (w : Work) :
    Mode × MusterUnit × Eight PeerEntry × ClaimEngine × TripController × AxisInterface :=
  (w.mode, w.muster, w.peers, w.claims, w.trips, w.axis)

namespace Work

theorem when_apart {b : Bool} {f : Work → Work} {w : Work} (h : (f w).apart = w.apart) :
    (w.when b f).apart = w.apart := by
  cases b
  · rfl
  · exact h

theorem foldl_apart {α : Type} {f : Work → α → Work} (h : ∀ w a, (f w a).apart = w.apart) (l : List α) (w : Work) :
    (l.foldl f w).apart = w.apart := by
  induction l generalizing w with
  | nil => rfl
  | cons a l ih => exact (ih (f w a)).trans (h w a)

@[simp] theorem onLink_apart (f : LinkController → LinkController) (w : Work) : (w.onLink f).apart = w.apart := rfl
@[simp] theorem onStrings_apart (f : StringTracker → StringTracker) (w : Work) :
    (w.onStrings f).apart = w.apart := rfl
@[simp] theorem onSegments_apart (f : SegmentEngine → SegmentEngine) (w : Work) :
    (w.onSegments f).apart = w.apart := rfl
@[simp] theorem onLockTurn_apart (f : LockTurnUnit → LockTurnUnit) (w : Work) :
    (w.onLockTurn f).apart = w.apart := rfl
@[simp] theorem onEnvelope_apart (f : EnvelopeUnit → EnvelopeUnit) (w : Work) :
    (w.onEnvelope f).apart = w.apart := rfl
@[simp] theorem post_apart (b : Block) (e : Event) (w : Work) : (w.post b e).apart = w.apart := rfl
@[simp] theorem raise_apart (c : CauseReport) (w : Work) : (w.raise c).apart = w.apart := rfl

@[simp] theorem queueFrame_apart (i : TxItem) (w : Work) : (w.queueFrame i).apart = w.apart := by
  rcases queueFrame_cases i w with ⟨h, -⟩ | h | h <;> rw [h] <;> rfl

@[simp] theorem requestString_apart (w : Work) : w.requestString.apart = w.apart := by
  unfold requestString
  split
  · exact (when_apart rfl).trans (queueFrame_apart _ _)
  · rfl

@[simp] theorem findMismatch_apart (w : Work) : w.findMismatch.apart = w.apart := by
  unfold findMismatch; split <;> rfl

@[simp] theorem judgeMismatch_apart (found : Bool) (w : Work) : (w.judgeMismatch found).apart = w.apart := by
  unfold judgeMismatch; split <;> simp

@[simp] theorem storeRecord_apart (old new : StringRecord) (recomputed : Bool) (w : Work) :
    (w.storeRecord old new recomputed).apart = w.apart := by
  unfold storeRecord
  split
  · simp
  · exact (when_apart (requestString_apart _)).trans rfl

@[simp] theorem changeRecord_apart (f : StringRecord → StringRecord) (w : Work) :
    (w.changeRecord f).apart = w.apart := by
  unfold changeRecord
  split
  · dsimp only; split <;> simp
  · rfl

@[simp] theorem applyLockResult_apart (k : Nat) (disengage : Bool) (res : ReleaseResult) (w : Work) :
    (w.applyLockResult k disengage res).apart = w.apart := by
  unfold applyLockResult
  split
  · rw [changeRecord_apart]
    exact when_apart (findMismatch_apart _)
  · rfl

@[simp] theorem markDoubtful_apart (k : Nat) (w : Work) : (w.markDoubtful k).apart = w.apart := by
  unfold markDoubtful; split <;> simp

@[simp] theorem abandonSegment_apart (tag : Tag) (w : Work) : (w.abandonSegment tag).apart = w.apart := by
  unfold abandonSegment
  repeat' split
  all_goals rfl

@[simp] theorem flushSegments_apart (cause : Nat) (w : Work) : (w.flushSegments cause).apart = w.apart :=
  when_apart rfl

@[simp] theorem clearStall_apart (tag : Tag) (w : Work) : (w.clearStall tag).apart = w.apart := when_apart rfl

@[simp] theorem endTurn_apart (tag : Tag) (lost : Nat) (result : Option ReleaseResult) (w : Work) :
    (w.endTurn tag lost result).apart = w.apart := by
  unfold endTurn
  split
  · split
    · exact (onLockTurn_apart _ _).trans (when_apart rfl)
    · rfl
  · rfl

@[simp] theorem lockTurnEnded_apart (e : ClaimEntry) (how : Removal) (w : Work) :
    (w.lockTurnEnded e how).apart = w.apart := by
  unfold lockTurnEnded
  repeat' split
  all_goals first | exact when_apart (markDoubtful_apart _ _) | simp

@[simp] theorem crowdEnded_apart (e : ClaimEntry) (w : Work) : (w.crowdEnded e).apart = w.apart := when_apart rfl

@[simp] theorem rotaryEnded_apart (e : ClaimEntry) (how : Removal) (w : Work) :
    (w.rotaryEnded e how).apart = w.apart :=
  when_apart ((when_apart (clearStall_apart _ _)).trans (endTurn_apart _ _ _ _))

@[simp] theorem segmentsEnded_apart (e : ClaimEntry) (how : Removal) (w : Work) :
    (w.segmentsEnded e how).apart = w.apart :=
  when_apart ((when_apart (flushSegments_apart _ _)).trans (abandonSegment_apart _ _))

/-- The leaving of an entry touches the envelope, the segments, the lock turn, the string record and the transmit queue
alone. -/
@[simp] theorem entryEnded_apart (e : ClaimEntry) (how : Removal) (w : Work) :
    (w.entryEnded e how).apart = w.apart := by
  unfold entryEnded
  exact (when_apart (lockTurnEnded_apart _ _ _)).trans (by simp)

/-- The voiding empties the table and keeps mode, muster, peers, trip record and axis (R95). -/
theorem voidTable_spec (w : Work) :
    w.voidTable.claims = { w.claims with table := [] } ∧ w.voidTable.mode = w.mode ∧
      w.voidTable.muster = w.muster ∧ w.voidTable.peers = w.peers ∧ w.voidTable.trips = w.trips ∧
      w.voidTable.axis = w.axis := by
  have h : w.voidTable.apart = (w.onClaims fun c => { c with table := [] }).apart := by
    unfold voidTable
    refine (foldl_apart (f := fun w t => w.post .claimEngine (.of .claimWithdrawn (tag := some t) (code := 0)))
      (fun w t => rfl) _ _).trans ?_
    refine (when_apart rfl).trans ?_
    exact (foldl_apart (f := fun w e => w.entryEnded e .voided) (fun w e => entryEnded_apart e _ w) _ _).trans rfl
  simp only [apart, Prod.mk.injEq] at h
  obtain ⟨hm, hu, hp, hc, ht, ha⟩ := h
  exact ⟨hc, hm, hu, hp, ht, ha⟩

/-- A flush leaves no segment and nothing begun, and keeps the value (R140). -/
theorem flushSegments_spec (cause : Nat) (w : Work) :
    (w.flushSegments cause).segments.queue = [] ∧ (w.flushSegments cause).segments.pointer = none ∧
      (w.flushSegments cause).segments.begun = false ∧
      (w.flushSegments cause).segments.value = w.segments.value ∧
      (w.flushSegments cause).segments.demandTimer = w.segments.demandTimer := by
  have h : (w.flushSegments cause).segments = w.segments.flushed := by
    unfold flushSegments when
    dsimp only
    split <;> rfl
  rw [h]
  exact ⟨rfl, rfl, rfl, rfl, rfl⟩

/-- The axis set at rest (R114, R116, R119). -/
theorem setAtRest_spec (w : Work) :
    w.setAtRest.envelope.demand = 0 ∧ w.setAtRest.axis.brakeSet = true ∧ w.setAtRest.axis.valve = 0 :=
  ⟨rfl, rfl, rfl⟩

/-- The safe-down completed (R166). -/
theorem completeSafeDown_spec (w : Work) :
    w.completeSafeDown.mode = .safed ∧ w.completeSafeDown.envelope.demand = 0 ∧
      w.completeSafeDown.axis.brakeSet = true ∧ w.completeSafeDown.axis.valve = 0 ∧
      w.completeSafeDown.trips.safeDownTimer = none ∧ w.completeSafeDown.trips.restCount = 0 ∧
      w.completeSafeDown.trips.record = w.trips.record := ⟨rfl, rfl, rfl, rfl, rfl, rfl, rfl⟩

/-- The entry into SAFE_DOWN, where telling the rig touches neither these parts nor the segments: the table and the
segment queue empty, the timer at its limit, PANEL in SAFED (R163, R165). -/
theorem enterSafeDown_spec {tell : Work → Work} (ht : ∀ w, (tell w).apart = w.apart)
    (hs : ∀ w, (tell w).segments = w.segments) (hf : ∀ w, (tell w).fixed = w.fixed) (w : Work) :
    (w.enterSafeDown tell).mode = (if w.isRole .panel then .safed else .safeDown) ∧
      (w.enterSafeDown tell).claims = { w.claims with table := [] } ∧
      (w.enterSafeDown tell).segments.queue = [] ∧ (w.enterSafeDown tell).segments.pointer = none ∧
      (w.enterSafeDown tell).segments.begun = false ∧ (w.enterSafeDown tell).trips.record = w.trips.record ∧
      (w.enterSafeDown tell).trips.ownParkMask = none ∧ (w.enterSafeDown tell).trips.restCount = 0 ∧
      (w.enterSafeDown tell).trips.safeDownTimer = (if w.isRole .panel then none else some w.image.safeDownLimit) ∧
      (w.enterSafeDown tell).peers = w.peers ∧ (w.enterSafeDown tell).muster = w.muster := by
  let w1 : Work := (w.setMode .safeDown).onTrips fun t => { t with ownParkMask := none }
  let w2 := w1.voidTable.flushSegments 1
  obtain ⟨hv1, hv2, hv3, hv4, hv5, -⟩ := voidTable_spec w1
  obtain ⟨hg1, hg2, hg3, -, -⟩ := flushSegments_spec 1 w1.voidTable
  have hap := (ht w2).trans (flushSegments_apart 1 w1.voidTable)
  have hfx := (hf w2).trans ((flushSegments_fixed 1 w1.voidTable).trans (voidTable_fixed w1))
  simp only [apart, Prod.mk.injEq] at hap
  obtain ⟨am, au, ap, ac, at', -⟩ := hap
  have himg : (tell w2).image = w.image := congrArg (fun x => x.1.1) hfx
  have hmu : (tell w2).muster = w.muster := au.trans hv3
  have hrole : (tell w2).isRole .panel = w.isRole .panel := by
    unfold State.isRole State.role; rw [hmu]
  have hseg := hs w2
  have e : w.enterSafeDown tell =
      ((tell w2).onTrips fun t =>
        { t with safeDownTimer := some (tell w2).image.safeDownLimit, restCount := 0 }).when
        ((tell w2).isRole .panel) completeSafeDown := rfl
  rw [e, hrole]
  have hclaims : (tell w2).claims = { w.claims with table := [] } := ac.trans hv1
  have hrec : (tell w2).trips.record = w.trips.record := by rw [at', hv5]; rfl
  have hmask : (tell w2).trips.ownParkMask = none := by rw [at', hv5]; rfl
  have hmode : (tell w2).mode = .safeDown := am.trans hv2
  have hpeers : (tell w2).peers = w.peers := ap.trans hv4
  cases hp : w.isRole .panel with
  | true =>
    exact ⟨rfl, hclaims, by rw [when_true]; exact hseg ▸ hg1, by rw [when_true]; exact hseg ▸ hg2,
      by rw [when_true]; exact hseg ▸ hg3, hrec, hmask, rfl, rfl, hpeers, hmu⟩
  | false =>
    exact ⟨hmode, hclaims, by rw [when_false]; exact hseg ▸ hg1, by rw [when_false]; exact hseg ▸ hg2,
      by rw [when_false]; exact hseg ▸ hg3, hrec, hmask, rfl, by rw [when_false]; exact congrArg (some ·.safeDownLimit) himg,
      hpeers, hmu⟩

/-- The entry into LOCKOUT: at rest and braked, the table and the segment queue empty (R168). -/
theorem enterLockout_spec (c : Cause) (w : Work) :
    (w.enterLockout c).mode = .lockout ∧ (w.enterLockout c).axis.brakeSet = true ∧
      (w.enterLockout c).axis.valve = 0 ∧ (w.enterLockout c).claims = { w.claims with table := [] } ∧
      (w.enterLockout c).trips.safeDownTimer = none ∧ (w.enterLockout c).trips.restCount = 0 ∧
      (w.enterLockout c).trips.record = w.trips.record ∧ (w.enterLockout c).peers = w.peers ∧
      (w.enterLockout c).muster = w.muster := by
  let w1 : Work := (w.setMode .lockout).setAtRest
  obtain ⟨hv1, hv2, hv3, hv4, hv5, hv6⟩ := voidTable_spec w1
  have hap := (queueFrame_apart (.trip w.own c) (w1.voidTable.flushSegments 1)).trans
    (flushSegments_apart 1 w1.voidTable)
  simp only [apart, Prod.mk.injEq] at hap
  have hown : w1.voidTable.own = w.own := congrArg (fun x => x.1.2.1.station) (voidTable_fixed w1)
  have e : w.enterLockout c =
      (((w1.voidTable.flushSegments 1).queueFrame (.trip w1.voidTable.own c)).onTrips fun t =>
        { t with safeDownTimer := none, restCount := 0 }).post .tripController
        (.of .lockout (code := Cause.code c)) := rfl
  rw [e, hown]
  obtain ⟨am, au, ap, ac, at', aa⟩ := hap
  refine ⟨am.trans hv2, ?_, ?_, ac.trans hv1, rfl, rfl, ?_, ap.trans hv4, au.trans hv3⟩
  · exact (congrArg AxisInterface.brakeSet (aa.trans hv6)).trans rfl
  · exact (congrArg AxisInterface.valve (aa.trans hv6)).trans rfl
  · exact (congrArg TripController.record (at'.trans hv5)).trans rfl

end Work

end Sys2Proof.Machine
end

