-- ==== Sys2Proof/Laws/Link.lean ====
section
/-! SUPPORT. What the ends of an own frame and the receiver do: the echo check, the ways a frame leaves the
transmission, when a received frame is delivered, and the divergence count. -/

namespace Sys2Proof.Machine

/-! ### The echo check (R27, R37) -/

theorem echoVerdict_clean_iff (driven read : List Bool) : echoVerdict driven read = .clean ↔ read = driven := by
  unfold echoVerdict
  split_ifs with h <;> simp [h]

@[simp] theorem echoVerdict_self (driven : List Bool) : echoVerdict driven driven = .clean :=
  (echoVerdict_clean_iff driven driven).mpr rfl

/-- Arbitration is found lost in the echo exactly where a recessive bit of the field was read dominant. -/
theorem echoVerdict_lost_iff (driven read : List Bool) :
    echoVerdict driven read = .lost ↔ ∃ b ∈ (driven.zip read).take 7, b.1 = true ∧ b.2 = false := by
  have hself : ∀ l : List Bool, ((l.zip l).take 7).any (fun b => b.1 && !b.2) = false := by
    intro l
    rw [List.any_eq_false]
    intro b hb
    have hm := List.mem_of_mem_take hb
    have heq : b.1 = b.2 := by
      clear hb
      induction l with
      | nil => simp at hm
      | cons a l ih =>
        rcases List.mem_cons.mp hm with rfl | hm
        · rfl
        · exact ih hm
    simp [heq]
  unfold echoVerdict
  split_ifs with h k
  · subst h
    have := hself read
    rw [List.any_eq_false] at this
    simp only [false_iff, not_exists, not_and]
    intro b hb h1 h2
    exact this b hb (by simp [h1, h2])
  · simpa using k
  · simpa using k

/-- An undisturbed line is read as it is driven. -/
@[simp] theorem readBack_nil (driven : List Bool) : readBack driven [] = driven := by cases driven <;> rfl

theorem readBack_length (driven flips : List Bool) : (readBack driven flips).length = driven.length := by
  induction driven generalizing flips with
  | nil => cases flips <;> rfl
  | cons d l ih => cases flips with
    | nil => rfl
    | cons f flips => exact congrArg (· + 1) (ih flips)

/-- A station that nobody contends with and whose line is undisturbed wins with a clean echo. -/
theorem attempt_undisturbed (s : State) (f : Frame) : s.attempt ⟨[], []⟩ f = .clean := by
  simp [State.attempt, winsArbitration, arbitrate]

/-- A station that loses contends without effect. -/
theorem execContend_lost {line : LineReading} {s : State} {i : TxItem} (h : s.link.head = some i)
    (k : s.attempt line (s.fill i) = .lost) : execContendForLink line s = .next s := by
  simp only [execContendForLink, h, k]
  split_ifs <;> rfl

/-! ### The frame in transmission ends (R38, R39) -/

@[simp] theorem leave_isSending (l : LinkController) : l.leave.isSending = false := rfl

@[simp] theorem stay_isSending (l : LinkController) : l.stay.isSending = false := by
  unfold LinkController.stay LinkController.isSending
  cases l.slot <;> rfl

/-! ### Receiving (R28, R29, R34, R42) -/

theorem receiveFrame_deaf {s : State} (h : s.deaf = true) (sender : Station) (f : Frame) :
    receiveFrame sender f s = .next s := by
  simp [receiveFrame, h]

/-- A station that hears the sender delivers its well-formed frame. -/
theorem receiveFrame_hears {s : State} {sender : Station} {f : Frame} (h : s.hears sender) (hf : f.wf = true) :
    receiveFrame sender f s = .next (finish s ((Work.begin s).deliverPeer sender f)) := by
  obtain ⟨hm, hs, hn⟩ := h
  have hr : s.mode.receives = true := by revert hm; cases s.mode <;> decide
  simp [receiveFrame, State.deaf, hr, hs, hf, hn]

/-! ### The divergence count (R97) -/

@[simp] theorem mismatch_fixed (s : Station) (n : Nat) (w : Work) : (w.mismatch s n).fixed = w.fixed := by
  unfold Work.mismatch
  dsimp only
  split_ifs <;> simp

@[simp] theorem compareTags_fixed (s : Station) (tags : List Tag) (w : Work) :
    (w.compareTags s tags).fixed = w.fixed := by
  unfold Work.compareTags
  split_ifs <;> simp

end Sys2Proof.Machine
end

