-- ==== Sys2Proof/Laws/Strings.lean ====
section
/-! SUPPORT. What the String Tracker's operations make of the sections: each stays within 0 and its stroke, and as many
stand in the record as before (R2, R10, R18 to R21). -/

namespace Sys2Proof.Machine

/-! ### The dealing -/

theorem deal_length (g : Image) (k : Nat) (l : List SectionEntry) (r : Int) : (deal g k l r).1.length = l.length := by
  induction l generalizing k r with
  | nil => rfl
  | cons e l ih => unfold deal; dsimp only; split <;> simp [ih]

theorem deal_rest_nonneg (g : Image) (k : Nat) (l : List SectionEntry) {r : Int} (h : 0 ≤ r) : 0 ≤ (deal g k l r).2 := by
  induction l generalizing k with
  | nil => exact h
  | cons e l ih => unfold deal; dsimp only; split <;> have := ih (k + 1) <;> dsimp only <;> omega

/-- The dealing keeps every section within 0 and its stroke (R2, R10). -/
theorem deal_within {g : Image} {k : Nat} {l : List SectionEntry} {r : Int} (hr : 0 ≤ r)
    (h : ∀ (i : Nat) (x : SectionEntry), l[i]? = some x → 0 ≤ x.ext ∧ x.ext ≤ g.stroke (k + i)) (i : Nat)
    (x : SectionEntry) (hx : (deal g k l r).1[i]? = some x) : 0 ≤ x.ext ∧ x.ext ≤ g.stroke (k + i) := by
  induction l generalizing k i with
  | nil => simp [deal] at hx
  | cons e l ih =>
    have head := h 0 e rfl
    have tail : ∀ (i : Nat) (x : SectionEntry), l[i]? = some x → 0 ≤ x.ext ∧ x.ext ≤ g.stroke (k + 1 + i) := by
      intro i x hi
      have := h (i + 1) x (by simpa using hi)
      rwa [Nat.add_assoc, Nat.add_comm 1 i]
    have rest := deal_rest_nonneg g (k + 1) l hr
    unfold deal at hx
    dsimp only at hx
    cases i with
    | zero =>
      split at hx <;> simp only [List.getElem?_cons_zero, Option.some.injEq] at hx <;> subst hx
      · exact head
      · simp only [SectionEntry.loose, Nat.add_zero] at head ⊢; omega
    | succ i =>
      have := ih tail i
      rw [Nat.add_assoc, Nat.add_comm 1 i] at this
      split at hx <;> exact this (by simpa using hx)

/-! ### The record -/

/-- A change of each section alone keeps the strokes where it keeps an extension within its stroke. -/
theorem within_map {g : Image} {l : List SectionEntry} {f : SectionEntry → SectionEntry}
    (hf : ∀ e : SectionEntry, (f e).ext = e.ext) (h : WithinStrokes g l) : WithinStrokes g (l.map f) := by
  intro i x hx
  rw [List.getElem?_map, Option.map_eq_some_iff] at hx
  obtain ⟨e, he, rfl⟩ := hx
  rw [hf]; exact h i e he

/-- Section `k` changed within its stroke (R19, R20). -/
theorem within_onSection {g : Image} {k : Nat} {f : SectionEntry → SectionEntry} {r : StringRecord}
    (hf : ∀ e, r.sectionAt k = some e → 0 ≤ (f e).ext ∧ (f e).ext ≤ g.stroke k) (h : WithinStrokes g r.sections) :
    WithinStrokes g (r.onSection k f).sections := by
  unfold StringRecord.onSection
  split
  next hk =>
    intro i x hx
    rw [List.getElem?_modify] at hx
    obtain ⟨e, he, rfl⟩ := Option.map_eq_some_iff.mp hx
    by_cases hi : k - 2 = i
    · subst hi
      have := hf e (by unfold StringRecord.sectionAt; rw [if_pos hk]; exact he)
      rw [show k - 2 + 2 = k by omega, if_pos rfl]; exact this
    · simpa only [hi, if_false, id] using h i e he
  next => exact h

/-- A recomputation keeps every section within its stroke, and their number (R10). -/
theorem recomputed_within {g : Image} {measured sledge : Int} {r : StringRecord} (h : WithinStrokes g r.sections) :
    WithinStrokes g (r.recomputed g measured sledge).1.sections ∧
      (r.recomputed g measured sledge).1.sections.length = r.sections.length := by
  refine ⟨fun i x hx => ?_, deal_length g 2 r.sections _⟩
  have := deal_within (le_max_left 0 _) (fun i x hi => by rw [Nat.add_comm]; exact h i x hi) i x hx
  rwa [Nat.add_comm] at this

/-- The start rule leaves every section within its stroke, and their number (R18). -/
theorem started_within {g : Image} {measured sledge : Int} {r : StringRecord} (h : WithinStrokes g r.sections) :
    WithinStrokes g (r.started g measured sledge).1.sections ∧
      (r.started g measured sledge).1.sections.length = r.sections.length := by
  have bare : WithinStrokes g (r.sections.map fun _ => SectionEntry.loose 0) := by
    intro i x hx
    rw [List.getElem?_map, Option.map_eq_some_iff] at hx
    obtain ⟨e, he, rfl⟩ := hx
    have := h i e he
    exact ⟨le_refl 0, le_trans this.1 this.2⟩
  unfold StringRecord.started
  dsimp only
  split
  · exact ⟨bare, List.length_map _⟩
  · refine ⟨?_, ?_⟩
    · refine within_map (fun _ => rfl) fun i x hx => ?_
      have := deal_within (le_max_left 0 _) (fun i x hi => by rw [Nat.add_comm]; exact bare i x hi) i x hx
      rwa [Nat.add_comm] at this
    · simp [StringRecord.withPath, StringRecord.withTotals, deal_length]

theorem unkeyed_ext (e : SectionEntry) : e.unkeyed.ext = e.ext := by
  unfold SectionEntry.unkeyed; split <;> rfl

/-! ### Lock-turn results (R19) -/

/-- An image that JOIN has passed has no pocket beyond its stroke (R1, R51). -/
theorem pocket_le_stroke {g : Image} (h : g.badPocket = none) {k i : Nat} (hk : 2 ≤ k) (hn : k ≤ g.sectionCount)
    (hi : i < g.pocketCount k) : g.pocket k i ≤ g.stroke k := by
  have hb := List.findSome?_eq_none_iff.mp h (k - 2) (List.mem_range.mpr (by omega))
  rw [show k - 2 + 2 = k by omega] at hb
  have := List.findSome?_eq_none_iff.mp hb i (List.mem_range.mpr hi)
  by_contra hc
  rw [if_pos (Or.inl (not_le.mp hc))] at this
  exact nomatch this

/-- A lock-turn result leaves the extension, or sets it to a pocket's position (R19). -/
theorem lockResult_ext (g : Image) (k : Nat) (disengage : Bool) (res : ReleaseResult) (e : SectionEntry) :
    (lockResult g k disengage res e).ext = e.ext ∨
      ∃ i, i < g.pocketCount k ∧ (lockResult g k disengage res e).ext = g.pocket k i := by
  unfold lockResult
  split
  · split
    next i hp => exact Or.inr ⟨i, ((nearestPocket_eq_some g k e.ext i).mp hp).1, rfl⟩
    next => exact Or.inl rfl
  all_goals exact Or.inl rfl

end Sys2Proof.Machine
end

