-- ==== Sys2Proof/Tests/Slice0.lean ====
section
/-! SUPPORT. Tests: the terms that well-formedness refuses, a few frames written out bit by bit from R190, single steps
on small states, and, for every statement with hypotheses, a state and operands that meet each clause, at the
boundaries where the clauses meet. -/

namespace Sys2Proof.Tests

open Sys2Proof Sys2Proof.Machine

/-! ### Small states -/

/-- The rig of the tests: HOIST 0, CROWD 1, ROTARY 2, PANEL 4. -/
def rig : Eight RoleCode := ⟨0, 1, 2, 7, 4, 7, 7, 7⟩

/-- A station of the rig in a mode, with everything else as after reset. -/
def node (own : Station) (mode : Mode) : State :=
  { State.reset with
    mode := mode
    image := Image.defaults (rig.get own)
    muster := { State.reset.muster with
      straps := { station := own, role := rig.get own, period := 1 }, map := rig, resetHeld := false } }

/-- The state with one peer entry in an admission state. -/
def peer (i : Station) (a : Admission) (s : State) : State :=
  { s with peers := s.peers.set i { s.peers.get i with admission := a, role := s.muster.map.get i } }

/-- The state with these live claims. -/
def live (l : List ClaimEntry) (s : State) : State := { s with claims := { s.claims with table := l } }

/-- The state with these entries waiting in the transmit queue. -/
def waiting (l : List TxItem) (s : State) : State := { s with link := { s.link with queue := l } }

/-- The state with a frame of its own in transmission. -/
def sends (i : TxItem) (f : Frame) (s : State) : State :=
  { s with link := { s.link with
      slot := some { item := i, sending := some { frame := f, fate := .judged, echoFault := false } } } }

/-- A tag of a station. -/
def tagOf (i : Station) : Tag := { station := i, seq := 0 }

/-- A live claim of a station. -/
def claim (i : Station) (kind : ClaimKind) (set grants : Byte) (state : ClaimState) : ClaimEntry :=
  { tag := tagOf i, kind := kind, consentSet := set, grants := grants, state := state, consent := false
    revokeQueued := false, grantWindow := none, releasePending := false, takeQueued := false }

/-- A beacon of a role under the rig's map, in RUN and at rest. -/
def beat (role : Byte) (seq : Byte) : BeaconRecord :=
  { role := role, mode := 6, seq := seq, primary := 0, secondary := 0, position := 0, output := 0, atRest := true
    stall := false, unkeyed := false, clearRefused := false, gated := false, map := rig, generation := none
    tags := [] }

/-- A STRING frame's contents with two sections. -/
def string2 (generation : Byte) : StringImage :=
  { generation := generation, count := 2, total := 0, slack := 0, loadComplete := true, certain := true, depth := 0
    sections := [{ lock := 0, pocket := 0, ext := 0 }] }

/-- A queue of `n` CLEAR frames. -/
def clears (n : Nat) : List TxItem := List.replicate n .clear

/-- An own PENDING claim of ROTARY with its grant window running. -/
def asked : ClaimEntry := { claim 2 (.rotate false) 0x11 0 .pending with grantWindow := some 0 }

/-- ROTARY with an own HELD ROTATE FORWARD. -/
def turning : State := live [claim 2 (.rotate false) 0x11 0x11 .held] (node 2 .run)

/-- ROTARY with an own HELD LOCK_TURN that its unit turns. -/
def locking : State :=
  { live [claim 2 (.lockTurn 2 false) 0x13 0x13 .held] (node 2 .run) with
    lockTurn := { (node 2 .run).lockTurn with
      state := .settling, turn := some { tag := tagOf 2, sec := 2, disengage := false } } }

/-- A RUNNING engine with this queue, its segment at `i` begun. -/
def engine (q : List SegmentBody) (i : Nat) (s : State) : State :=
  { s with
    segments := { s.segments with
      queue := q.map fun b => { body := b, completed := false }
      pointer := some i, begun := true, remaining := 1, state := .running } }

/-- The next state of a command, where it answers one. -/
def after (c : Instr) (s : State) : State :=
  match exec c s with
  | .next t => t
  | .fault _ | .refused _ => s

/-! ### Well-formedness refuses -/

theorem test_wf_trip_start : (Instr.tripFrame 0 1 .start).wf = false := by decide
theorem test_wf_park_mask : (Instr.parkFrame 0 64).wf = false ∧ (Instr.parkFrame 0 63).wf = true := by decide
theorem test_wf_beacon_primary : (Instr.beaconFrame 0 { beat 0 0 with primary := 32768 }).wf = false := by decide
theorem test_wf_beacon_secondary : (Instr.beaconFrame 0 { beat 0 0 with secondary := -32769 }).wf = false := by decide
theorem test_wf_beacon_position :
    (Instr.beaconFrame 0 { beat 0 0 with position := 2147483648 }).wf = false := by decide
theorem test_wf_beacon_output : (Instr.beaconFrame 0 { beat 0 0 with output := 32768 }).wf = false := by decide
theorem test_wf_beacon_tags :
    (Instr.beaconFrame 0 { beat 0 0 with tags := List.replicate 9 (tagOf 1) }).wf = false ∧
      (Instr.beaconFrame 0 { beat 0 0 with tags := List.replicate 8 (tagOf 1) }).wf = true := by decide
theorem test_wf_string_count_low : ({ string2 0 with count := 1, sections := [] } : StringImage).wf = false := by
  decide
theorem test_wf_string_count_high :
    ({ string2 0 with count := 7, sections := List.replicate 6 ⟨0, 0, 0⟩ } : StringImage).wf = false := by decide
theorem test_wf_string_sections : ({ string2 0 with sections := [] } : StringImage).wf = false := by decide
theorem test_wf_string_total : ({ string2 0 with total := 4294967296 } : StringImage).wf = false := by decide
theorem test_wf_string_slack : ({ string2 0 with slack := 65536 } : StringImage).wf = false := by decide
theorem test_wf_string_depth : ({ string2 0 with depth := 2147483648 } : StringImage).wf = false := by decide
theorem test_wf_string_ext :
    ({ string2 0 with sections := [{ lock := 0, pocket := 0, ext := 65536 }] } : StringImage).wf = false := by decide

/-! ### No word spells a command -/

theorem test_no_word_spells : decodeTableWord 8 0 = none ∧ decodeTableWord 16 255 = none := by decide

/-! ### Frames bit by bit (R190) -/

/-- A CLEAR of station 4: kind 0001, station 100, length 000000, then the 16 bits of the CRC. -/
theorem test_clear_bits :
    (Frame.bits 4 .clear).take 13 =
        [false, false, false, true, true, false, false, false, false, false, false, false, false] ∧
      (Frame.bits 4 .clear).length = 29 := by decide

/-- A GRANT of station 1 for the tag of station 2 with sequence 3: kind 0101, station 001, length 000001, tag
01000011. -/
theorem test_grant_bits :
    (Frame.bits 1 (.grant { station := 2, seq := 3 })).take 21 =
      [false, true, false, true, false, false, true, false, false, false, false, false, true,
        false, true, false, false, false, false, true, true] := by decide

theorem test_take_read_back : receive (Frame.bits 2 (.take (tagOf 2))) = .good 2 (.take (tagOf 2)) := by decide +kernel

/-- One bit inverted fails the CRC. -/
theorem test_bad_crc :
    receive ((Frame.bits 2 (.take (tagOf 2))).set 20 true) = .bad .crc := by decide +kernel

/-! ### Arbitration (R27) -/

/-- A TRIP of station 7 beats a CLEAR of station 0; among beacons the lower station wins. -/
theorem test_arbitration :
    winsArbitration (arbitrationField .trip 7) [arbitrationField .clear 0] = true ∧
      winsArbitration (arbitrationField .beacon 3) [arbitrationField .beacon 2] = false := by decide

/-! ### Single steps -/

theorem test_start_enters_config :
    (after .startEnd { State.reset with muster := { State.reset.muster with resetHeld := false } }).mode = .config := by
  decide

theorem test_join_enters_muster : (after .join (node 1 .config)).mode = .muster := by decide

theorem test_force_trip_in_run :
    (after .forceTrip (node 1 .run)).mode = .safeDown ∧
      (after .forceTrip (node 1 .run)).trips.record =
        [{ origin := 1, cause := .hostTrip, isLocal := true, acked := false }] := by decide

theorem test_panel_safe_down_completes : (after .forceTrip (node 4 .run)).mode = .safed := by decide

theorem test_demand_follows_segment :
    (Work.begin (node 1 .run)).target = 0 ∧ nextDemand (0, 500) 400000 20000 0 = 400000 ∧
      nextDemand (0, 100) 0 200 150000 = 149800 ∧ nextDemand (0, 0) 0 200 100 = 0 := by decide

theorem test_relief :
    reliefOf 300 500 300 = 1000 ∧ reliefOf 300 500 400 = 500 ∧ reliefOf 300 500 500 = 0 := by decide

/-! ### Witnesses: the hypotheses of the statements are met -/

theorem test_witness_StepTakesTheFront :
    ({ node 1 .run with pending := [.status, .join] } : State).pending = .status :: [.join] ∧
      State.reset.pending = [] := by decide

theorem test_witness_Resets :
    ({ node 1 .run with host := { (node 1 .run).host with resetTaken := true } } : State).host.resetTaken = true ∧
      (node 1 .run).link.isSending = false ∧ (sends .clear .clear (node 4 .run)).link.isSending = true ∧
      (node 1 .run).host.resetTaken = false ∧
      (sends .clear .clear (node 4 .run)).link.slot =
        some { item := .clear, sending := some { frame := .clear, fate := .judged, echoFault := false } } ∧
      Fate.judged ≠ .unjudged := by decide

/-- ROTARY's levels at the strap pins of a station latched as CROWD, a RESET taken. -/
def restrapped : State :=
  { node 1 .run with
    muster := { (node 1 .run).muster with pins := ⟨2, 2, 1⟩ }
    host := { (node 1 .run).host with resetTaken := true } }

/-- A HOST reset is released as it is applied, by the levels standing; after it new levels are not read. -/
theorem test_host_reset_is_released :
    (after .hostResetBegins restrapped).muster.straps = ⟨2, 2, 1⟩ ∧
      (after .hostResetBegins restrapped).muster.resetHeld = false ∧
      (after .startEnd (after .hostResetBegins restrapped)).mode = .config ∧
      (after (.resetRelease ⟨3, 3, 0⟩) (after .hostResetBegins restrapped)).muster.straps = ⟨2, 2, 1⟩ ∧
      (after (.resetRelease ⟨3, 3, 0⟩) (after .lineReset restrapped)).muster.straps = ⟨3, 3, 0⟩ := by decide +kernel

/-- A RESET taken while the pin still holds a LINE reset: the node stays in reset until the release (log 4). -/
theorem test_host_reset_under_the_pin :
    (after .hostResetBegins (after .reset (after .lineReset restrapped))).muster.resetHeld = true ∧
      (after .startEnd (after .hostResetBegins (after .reset (after .lineReset restrapped)))).mode = .start ∧
      (after (.resetRelease ⟨3, 3, 0⟩)
        (after .hostResetBegins (after .reset (after .lineReset restrapped)))).muster.straps = ⟨3, 3, 0⟩ := by
  decide +kernel

theorem test_witness_ReleaseAndStart :
    State.reset.muster.resetHeld = true ∧ (node 4 .start).mode = .start ∧ (node 4 .start).muster.resetHeld = false ∧
      (node 4 .start).muster.straps.role.toNat ≤ 4 ∧ (node 4 .start).muster.straps.period.toNat ≤ 2 ∧
      ¬ (5#3).toNat ≤ 4 ∧ ¬ (3#2).toNat ≤ 2 := by decide

theorem test_witness_Invariants :
    HostSound State.reset ∧ QueueSound State.reset ∧ TripSound State.reset ∧ SegmentSound State.reset ∧
      RestOutside State.reset ∧ HeldStart State.reset ∧ PeersAbsent State.reset ∧
      step State.reset = .next State.reset :=
  ⟨⟨rfl, by decide⟩, by unfold QueueSound; decide, by unfold TripSound; decide, by unfold SegmentSound; decide,
    fun _ _ => ⟨rfl, rfl, rfl⟩, fun _ => rfl, fun _ => by decide, rfl⟩

theorem test_witness_CrowdUnderPermit :
    ImageSound State.reset ∧ ClaimSound State.reset ∧ RestOutside State.reset ∧ HeldStart State.reset ∧
      CrowdSound State.reset :=
  ⟨by unfold ImageSound; decide +kernel, List.Pairwise.nil, fun _ _ => ⟨rfl, rfl, rfl⟩, fun _ => rfl,
    fun _ h => absurd h (by decide)⟩

theorem test_witness_ControlStep :
    State.reset.muster.resetHeld = true ∧ (node 1 .run).muster.resetHeld = false ∧ (node 1 .run).mode ≠ .start ∧
      (node 1 .run).mode ≠ .strapFault ∧ (node 1 .run).hasAxis = true ∧ (node 1 .safeDown).hasAxis = true ∧
      ((node 1 .run).role.bind fun r => validRange r .primary) = some (-400, 800) := by decide

/-- The control step of a CROWD at rest stays in RUN, and in SAFE_DOWN it ramps. -/
theorem test_witness_ControlStep_modes :
    (after (.controlStep ⟨800, 0, 0⟩) (node 1 .run)).mode = .run ∧
      (after (.controlStep ⟨801, 0, 0⟩) (node 1 .safeDown)).mode = .lockout ∧
      (after (.controlStep ⟨0, 0, 0⟩) { node 1 .safeDown with
        envelope := { (node 1 .safeDown).envelope with demand := 5000 } }).envelope.demand = 4000 := by decide +kernel

/-- The state with one numeric item of the image replaced. -/
def item (index : Nat) (v : Int) (s : State) : State :=
  { s with image := { s.image with items := s.image.items.set index v } }

/-- A primary reading at the high hard limit and one above it, in RUN and in SAFE_DOWN. -/
theorem test_witness_Limit :
    (after (.controlStep ⟨500, 0, 0⟩) (item 41 500 (node 1 .run))).axis.limitMark = false ∧
      (after (.controlStep ⟨501, 0, 0⟩) (item 41 500 (node 1 .run))).axis.limitMark = true ∧
      (after (.controlStep ⟨501, 0, 0⟩) (item 41 500 (node 1 .run))).mode = .safeDown ∧
      (after (.controlStep ⟨501, 0, 0⟩) (item 41 500 (node 1 .safeDown))).mode = .lockout ∧
      (node 1 .run).axis.limitMark = false := by decide +kernel

/-- A primary reading beyond CROWD's valid range leaves RUN and turns SAFE_DOWN to LOCKOUT. -/
theorem test_witness_SensorFault :
    (after (.controlStep ⟨801, 0, 0⟩) (node 1 .run)).axis.primary.outOfRange = true ∧
      (after (.controlStep ⟨801, 0, 0⟩) (node 1 .run)).mode = .safeDown ∧
      (node 1 .run).axis.primary.outOfRange = false := by decide +kernel

/-- HOIST in RUN holding its consent of a claim. -/
def hoistConsents (kind : ClaimKind) : State :=
  live [{ claim 2 kind 0x11 0x01 .pending with consent := true }] (node 0 .run)

/-- Under ROTATE the station follows; under LOCK_TURN it holds, and a tension below the hang threshold revokes. -/
theorem test_witness_Follow :
    (after (.controlStep ⟨0, 70, 0⟩) (hoistConsents (.rotate false))).mode = .run ∧
      (after (.controlStep ⟨0, 70, 0⟩) (hoistConsents (.rotate false))).envelope.followOn = true ∧
      (after (.controlStep ⟨0, 70, 0⟩) (hoistConsents (.rotate false))).envelope.followTarget = 500 ∧
      (after (.controlStep ⟨0, 39, 0⟩) (hoistConsents (.lockTurn 2 false))).mode = .run ∧
      (after (.controlStep ⟨0, 39, 0⟩) (hoistConsents (.lockTurn 2 false))).link.items =
        [.revoke (tagOf 2) .tensionLost] ∧
      (after (.controlStep ⟨0, 40, 0⟩) (hoistConsents (.lockTurn 2 false))).link.items = [] ∧
      (after (.controlStep ⟨0, 40, 0⟩) (hoistConsents (.crowdLoad 5))).link.items =
        [.revoke (tagOf 2) .loadPath] := by decide +kernel

theorem test_witness_Holds : ClaimSound (hoistConsents (.lockTurn 2 false)) ∧
    (hoistConsents (.lockTurn 2 false)).isRole .hoist = true :=
  ⟨List.pairwise_singleton _ _, by decide⟩

/-- HOIST with a record of two FREE sections, CERTAIN or not, its slack payout at 100 and readings taken. -/
def hoistString (certain : Bool) : State :=
  { node 0 .run with
    strings := { (node 0 .run).strings with
      record := some { StringRecord.initial (node 0 .run).image with
        count := 3, certain := certain, slack := 100
        sections := [{ lock := .retracted, ext := 0 }, { lock := .free, ext := 9000 }] }
      lastPayout := some 14000, lastSledge := some 4000, lastTension := some 60 } }

/-- HOIST in RUN with the record of its entry into SAFED. -/
def hoistInStrokes : State :=
  { node 0 .run with
    strings := { (node 0 .run).strings with record := some (StringRecord.initial (node 0 .run).image) } }

/-- Slack rope pays out, and a hanging string ends the slack: the extension is dealt out anew from what is left. -/
theorem test_witness_String :
    (after (.controlStep ⟨0, 39, 14200⟩) (hoistString true)).mode = .run ∧
      ((after (.controlStep ⟨0, 39, 14200⟩) (hoistString true)).strings.record.map (·.slack)) = some 300 ∧
      ((after (.controlStep ⟨0, 39, 14200⟩) (hoistString true)).strings.record.map fun r => r.sections.map (·.ext)) =
        some [0, 9900] ∧
      ((after (.controlStep ⟨0, 40, 22001⟩) (hoistString true)).strings.record.map fun r => r.sections.map (·.ext)) =
        some [4001, 14000] ∧
      ((after (.controlStep ⟨0, 40, 22001⟩) (hoistString false)).strings.record.map fun r => r.sections.map (·.ext)) =
        some [0, 9000] ∧
      (after (.controlStep ⟨0, 40, 22001⟩) (hoistString true)).mode = .run := by decide +kernel

theorem test_witness_Deal :
    (∀ j, 0 ≤ ({ items := [], patterns := Eight.const none } : Image).stroke j) ∧
      (deal (Image.defaults 0) 2 [SectionEntry.loose 0, ⟨.doubtful, 7⟩, SectionEntry.loose 0] 15000).1.map (·.ext) =
        [1000, 7, 14000] := ⟨fun _ => le_refl _, by decide⟩

/-- Slack of 500, the limit, and of 501; a residue one beyond the window below 0 and one at it. -/
theorem test_witness_SlackAndMismatch :
    (after (.controlStep ⟨0, 39, 14400⟩) (hoistString true)).mode = .run ∧
      (after (.controlStep ⟨0, 39, 14401⟩) (hoistString true)).mode = .safeDown ∧
      (after (.controlStep ⟨0, 39, 14401⟩) (hoistString true)).strings.slackOver = true ∧
      (after (.controlStep ⟨0, 40, 3975⟩) (hoistString true)).strings.mismatch = false ∧
      (after (.controlStep ⟨0, 40, 3974⟩) (hoistString true)).strings.mismatch = true ∧
      (after (.controlStep ⟨0, 40, 3974⟩) (hoistString true)).mode = .safeDown := by decide +kernel

/-- The extensions 0 and 9000 lie within the strokes of 14000; 14001 does not. -/
theorem test_witness_WithinStrokes :
    WithinStrokes (Image.defaults 0) [{ lock := .retracted, ext := 0 }, { lock := .free, ext := 9000 }] ∧
      ¬ WithinStrokes (Image.defaults 0) [{ lock := .free, ext := 14001 }] := by
  refine ⟨fun i x hx => ?_, fun h => absurd (h 0 _ rfl).2 (by decide)⟩
  match i, hx with
  | 0, rfl => decide
  | 1, rfl => decide

/-- The invariants of the string hold at reset and of a HOIST in RUN with a record of its image. -/
theorem test_witness_StringSound :
    JoinedImage State.reset ∧ StringSound State.reset ∧ ImageSound hoistInStrokes ∧ HeldStart hoistInStrokes ∧
      JoinedImage hoistInStrokes ∧ StringSound hoistInStrokes := by
  refine ⟨fun h => absurd (show State.reset.mode ∈ _ by decide) h, fun _ h => (nomatch h), ?_, ?_, fun _ role h => ?_,
    fun r h => ?_⟩
  · unfold ImageSound; decide +kernel
  · unfold HeldStart; decide
  · cases h; decide +kernel
  · cases h
    refine ⟨rfl, rfl, rfl, fun i x hx => ?_⟩
    match i, hx with
    | 0, rfl | 1, rfl | 2, rfl | 3, rfl => decide

/-- The five states of the Segment Engine in one step each. -/
theorem test_witness_SegmentEngine :
    (after (.controlStep ⟨0, 0, 0⟩) (node 1 .run)).segments.state = .empty ∧
      (after (.controlStep ⟨0, 0, 0⟩) (engine [.dwell 2] 0 (node 1 .run))).segments.state = .waiting ∧
      (after (.controlStep ⟨0, 0, 0⟩) (engine [.ramp 300 7] 0 turning)).segments.state = .running ∧
      (after (.controlStep ⟨0, 0, 0⟩) (engine [.ramp 300 7] 0 turning)).segments.value = 7 ∧
      (after (.controlStep ⟨0, 0, 0⟩) (engine [.dwell 2] 0 locking)).segments.state = .suspended ∧
      (after (.controlStep ⟨0, 0, 0⟩) (engine [.dwell 2] 0 (node 1 .parked))).segments.state = .frozen ∧
      (after (.controlStep ⟨0, 0, 0⟩) (engine [.ramp 300 7] 0 turning)).mode = .run := by decide +kernel

/-- A body of one LEVEL and its REPEAT, in its last pass and before it; the segment reached is timed. -/
theorem test_witness_Segments :
    (engine [.mark, .level 5 3, .again 2 (some 0), .dwell 4] 2 turning).segments.pointer = some 2 ∧
      bodyMark (engine [.mark, .level 5 3, .again 2 (some 0), .dwell 4] 2 turning).segments.queue 2 = some 0 ∧
      ((some 0 : Option Nat).getD 2 = 0) ∧ ((none : Option Nat).getD 2 = 1 + 1) ∧
      (SegmentBody.level 5 3).timed = true ∧ (SegmentBody.dwell 4).timed = true ∧
      (({ (engine [.mark, .level 5 3, .again 2 none, .dwell 4] 2 turning).segments with
          begun := false, mark := some 1 } : SegmentEngine).run 10).pointer = some 1 ∧
      (({ (engine [.mark, .level 5 3, .again 2 (some 0), .dwell 4] 2 turning).segments with
          begun := false, mark := some 1 } : SegmentEngine).run 10).queue.length = 1 ∧
      (({ (engine [.mark, .level 5 3] 0 turning).segments with begun := false } : SegmentEngine).run 10).pointer =
        some 1 ∧
      (({ (engine [.mark] 0 turning).segments with begun := false } : SegmentEngine).run 10).pointer = none := by decide

/-- ROTARY in TURNING or STOPPING, at an angle, with a time left and the torque armed or not. -/
def turn (state : LockTurnState) (disengage : Bool) (angle timer : Nat) (armed : Bool) : State :=
  { live [claim 2 (.lockTurn 2 disengage) 0x13 0x13 .held] (node 2 .run) with
    lockTurn := { (node 2 .run).lockTurn with
      state := state, turn := some { tag := tagOf 2, sec := 2, disengage := disengage }, angle := angle
      timer := timer, timerRunning := true, armed := armed, account := .lockTurn, turnSpeed := 20000 } }

/-- Every result of a TURNING step, at the boundary of its test: lock angle 30 degrees, seat torque 150. -/
theorem test_witness_Turning :
    (after (.controlStep ⟨20, 149, 0⟩) (turn .turning false 29987999 2 true)).lockTurn.state = .turning ∧
      (after (.controlStep ⟨20, 149, 0⟩) (turn .turning false 29988000 2 true)).lockTurn.result =
        some .failedAngle ∧
      (after (.controlStep ⟨20, 150, 0⟩) (turn .turning false 0 2 true)).lockTurn.result = some .done ∧
      (after (.controlStep ⟨20, 150, 0⟩) (turn .turning false 0 2 false)).lockTurn.result = none ∧
      (after (.controlStep ⟨20, 149, 0⟩) (turn .turning false 0 1 false)).lockTurn.result = some .failedTime ∧
      (after (.controlStep ⟨-20, 150, 0⟩) (turn .turning true 29988000 2 true)).lockTurn.result =
        some .failedBound ∧
      (after (.controlStep ⟨-20, 149, 0⟩) (turn .turning true 29988000 2 true)).lockTurn.result = some .done ∧
      (after (.controlStep ⟨-20, 149, 0⟩) (turn .turning true 0 1 true)).lockTurn.result = some .failedTime ∧
      (after (.controlStep ⟨300, 149, 0⟩) (item 53 90 (turn .turning false 89999999 2 true))).lockTurn.angle =
        90000000 := by decide +kernel

theorem test_witness_RotarySteps :
    (after (.controlStep ⟨20, 149, 0⟩) (turn .turning false 0 2 true)).mode = .run ∧
      (after (.controlStep ⟨20, 149, 0⟩) (turn .settling false 0 1 true)).lockTurn.result = some .failedTime ∧
      (after (.controlStep ⟨20, 149, 0⟩) (turn .settling false 0 2 true)).lockTurn.state = .turning ∧
      (after (.controlStep ⟨20, 149, 0⟩) (turn .stopping false 0 2 true)).lockTurn.turnSpeed = 19500 ∧
      (after (.controlStep ⟨-1, 149, 0⟩) { turning with
        lockTurn := { turning.lockTurn with account := .spinOff, reverseAngle := 19999400 } }).lockTurn.unkeyed =
        true := by decide +kernel

theorem test_witness_Relief : (300 : Int) < 500 ∧ (300 : Int) ≤ 300 ∧ (500 : Int) ≤ 500 ∧ (300 : Int) < 301 ∧
    (499 : Int) < 500 := by decide

/-- CROWD under the crowd force permit, its relief factor at one half. -/
def pressing : State :=
  { live [claim 1 (.crowdLoad 500) 0x15 0x15 .held] (peer 2 .fresh (peer 0 .fresh (node 1 .run))) with
    strings := { (node 1 .run).strings with copy := some (string2 1), refreshed := true }
    envelope := { (node 1 .run).envelope with relief := 500 } }

theorem test_witness_CrowdCeiling :
    pressing.crowdPermit = true ∧ pressing.crowdCeiling 500 = 300 ∧ (node 1 .run).crowdPermit = false ∧
      0 ≤ pressing.image.maxForce ∧ pressing.envelope.relief ≤ 1000 := by decide

/-- HOIST with an own HELD raise, section 2 SEATED and section 3 at an extension. -/
def raising (ext : Int) : State :=
  { live [claim 0 (.stringMove true) 0x17 0x17 .held] (hoistString true) with
    strings := { (hoistString true).strings with
      record := some { StringRecord.initial (node 0 .run).image with
        count := 3, certain := true
        sections := [{ lock := .seated 0, ext := 500 }, { lock := .free, ext := ext }] } } }

/-- The keyed stop acts with nothing left to take up, and its beginning at a control step is announced. -/
theorem test_witness_KeyedStop :
    (raising 0).keyedActs = true ∧ (raising 1).keyedActs = false ∧
      (live [] (raising 0)).keyedActs = false ∧ (raising 0).envelope.keyedStop = false ∧
      (after (.controlStep ⟨0, 60, 4500⟩) (raising 0)).envelope.keyedStop = true ∧
      (after (.controlStep ⟨0, 60, 4500⟩) (raising 0)).mode = .run ∧
      (after (.controlStep ⟨0, 60, 4500⟩) (raising 0)).host.events.map (·.kind) =
        [.stringChange, .keyedStop] := by decide +kernel

/-- The relief factor of CROWD's control step: ROTARY FRESH at torque 400, and ROTARY not FRESH. -/
theorem test_witness_ReliefFormed :
    (after (.controlStep ⟨0, 0, 0⟩) { pressing with
      peers := pressing.peers.set 2 { pressing.peers.get 2 with
        beacon := some { beat 2 0 with secondary := 400 } } }).envelope.relief = 500 ∧
      (after (.controlStep ⟨0, 0, 0⟩) (peer 2 .stale pressing)).envelope.relief = 0 ∧
      (after (.beaconFrame 2 { beat 2 0 with secondary := 450 }) pressing).envelope.relief = 250 ∧
      Admitted 2 { beat 2 0 with secondary := 450 } pressing := by
  unfold Admitted State.hears; decide +kernel

/-- A STRING with a BROKEN load path drops the crowd of a CROWD that presses. -/
theorem test_witness_CrowdDropByString :
    (after (.stringFrame 0 { string2 1 with loadComplete := false }) pressing).envelope.dropLatch = true ∧
      (after (.stringFrame 0 { string2 1 with loadComplete := false }) pressing).host.events.map (·.kind) =
        [.crowdDrop] ∧
      (after (.stringFrame 0 (string2 1)) pressing).envelope.dropLatch = false := by decide +kernel

/-- The envelopes of an originator, of a consenter, of no claim, and outside RUN; the limits hold the rest value. -/
theorem test_witness_Envelopes :
    pressing.combinedEnvelope false = (0, 300) ∧ turning.combinedEnvelope false = (0, 300) ∧
      (hoistConsents .casingTurn).combinedEnvelope false = (0, 0) ∧
      { hoistConsents .casingTurn with
        envelope := { (node 0 .run).envelope with followOn := true } }.combinedEnvelope false = (-20, 20) ∧
      (live [claim 0 (.stringMove true) 0x17 0x17 .held] (node 0 .run)).combinedEnvelope true = (0, 0) ∧
      (live [claim 0 (.stringMove true) 0x17 0x17 .held] (node 0 .run)).combinedEnvelope false = (-1500, 0) ∧
      (live [claim 0 (.rotate false) 0x17 0x17 .held] (node 0 .run)).combinedEnvelope false = (0, 0) ∧
      (node 1 .run).combinedEnvelope false = (0, 0) ∧ (node 1 .parked).combinedEnvelope false = (0, 0) ∧
      pressing.image.hardLow ≤ 0 ∧ 0 ≤ pressing.image.hardHigh ∧ 0 ≤ pressing.image.lockSpeed ∧
      0 ≤ pressing.image.spinLimit ∧ 0 ≤ pressing.image.followSpeedLimit ∧ 0 ≤ pressing.image.creepHoist := by
  decide +kernel

theorem test_witness_StopLine :
    (node 1 .config).mode.readsAxis = true ∧ (node 1 .strapFault).mode.readsAxis = false ∧
      ({ node 1 .config with trips := { (node 1 .config).trips with stopActive := true } } : State).trips.stopActive =
        true := by decide

theorem test_witness_Causes :
    (node 1 .run).isRole .hoist = false ∧ (waiting (clears 11) (node 1 .parked)).link.count < 12 ∧
      (node 1 .run).trips.stopActive = false ∧ (node 1 .run).host.resetTaken = false ∧
      ({ node 1 .run with
        segments := { (node 1 .run).segments with demandTimer := some 1 } } : State).segments.demandTimer.isSome ∧
      ((peer 2 .fresh (node 1 .run)).peers.get 2).admission = .fresh ∧ (node 0 .run).isRole .hoist = true := by decide

theorem test_witness_SafeDown :
    (node 1 .safeDown).mode = .safeDown ∧ (node 1 .safeDown).envelope.demand = 0 ∧
      ({ node 1 .safeDown with
        trips := { (node 1 .safeDown).trips with safeDownTimer := some 1 } } : State).trips.safeDownTimer.isSome ∧
      (waiting (clears 10) (node 1 .safeDown)).link.count < 11 := by decide

theorem test_witness_BeaconTimer :
    (node 1 .safeDown).mode.beaconing = true ∧
      ({ node 1 .run with link := { (node 1 .run).link with beaconTimer := some 0 } } : State).link.beaconTimer.isSome ∧
      (waiting [.beacon] (node 1 .run)).link.holdsKind .beacon = true ∧
      (waiting (clears 12) (node 1 .run)).link.holdsKind .beacon = false ∧
      12 ≤ (waiting (clears 12) (node 1 .run)).link.count ∧
      ¬ 12 ≤ (waiting (clears 11) (node 1 .run)).link.count ∧ 1 < 2 ∧ 1 ≤ 1 := by decide

/-- HOIST with its string record present and the STRING interval run out. -/
def hoistDue : State :=
  { node 0 .run with
    strings := { (node 0 .run).strings with
      record := some (StringRecord.initial (node 0 .run).image), interval := some 0 } }

theorem test_witness_SendTimers :
    hoistDue.strings.interval.isSome = true ∧ hoistDue.strings.record.isSome = true ∧
      hoistDue.strings.queued = false ∧ hoistDue.mode.beaconing = true ∧ hoistDue.link.count < 12 ∧
      ({ hoistDue with strings := { hoistDue.strings with queued := true } } : State).strings.queued = true ∧
      ({ node 1 .muster with
        muster := { (node 1 .muster).muster with sendTimer := some 0 } } : State).muster.sendTimer.isSome ∧
      (waiting [.muster] (node 1 .muster)).link.holdsKind .muster = true := by decide

/-- A station in MUSTER whose window has run out. -/
def musterDue (own : Station) : State :=
  { node own .muster with muster := { (node own .muster).muster with windowTimer := some 0 } }

theorem test_witness_MusterWindow :
    (musterDue 0).muster.windowTimer.isSome ∧ (musterDue 0).muster.verdict = none ∧ (musterDue 0).link.count ≤ 9 ∧
      ({ (musterDue 0).muster with conflict := true } : MusterUnit).verdict = some (0, 0) ∧
      ({ (musterDue 0).muster with map := rig.set 4 7 } : MusterUnit).verdict = some (3, 4) := by decide

theorem test_witness_Silence :
    ((peer 2 .fresh (node 1 .run)).peers.get 2).admission = .fresh ∧
      ((peer 2 .stale (node 1 .run)).peers.get 2).admission ∈ [Admission.awaiting, .stale, .foreign] ∧
      (((peer 2 .stale (node 1 .run)).claims.table.any fun e => e.isParty 1 && e.isParty 2) = false) ∧
      (((live [claim 2 (.rotate false) 0x11 0 .pending, claim 2 (.lockTurn 2 false) 0x13 0 .held]
        (peer 2 .stale (node 1 .run))).claims.table.any fun e => e.isParty 1 && e.isParty 2) = true) := by decide

/-- CROWD's silence at HOIST with a CERTAIN record, and HOIST's and ROTARY's at a CROWD that presses. -/
theorem test_witness_Silence_effects :
    ((after (.silence3P 1) (peer 1 .fresh (hoistString true))).strings.record.map (·.certain)) = some false ∧
      (hoistString true).stationOf .crowd = some 1 ∧ (hoistString true).link.count < 12 ∧
      pressing.isRole .hoist = false ∧ pressing.copyValid = true ∧ pressing.stationOf .hoist = some 0 ∧
      pressing.stationOf .rotary = some 2 ∧ (after (.silence3P 0) pressing).strings.refreshed = false ∧
      (after (.silence3P 0) pressing).envelope.dropLatch = true ∧
      (after (.silence3P 2) pressing).envelope.dropLatch = true ∧
      (after (.silence3P 2) pressing).strings.refreshed = true := by decide +kernel

theorem test_witness_GrantWindow :
    (live [asked] (node 2 .run)).claims.find (tagOf 2) = some asked ∧ asked.isOwn 2 = true ∧
      asked.grantWindow.isSome ∧ asked.releasePending = false ∧
      (waiting (clears 11) (live [asked] (node 2 .run))).canSend = true ∧
      (live [asked] (node 2 .run)).link.waits (.take (tagOf 2)) = false ∧
      ({ asked with state := .granted } : ClaimEntry).state ≠ .pending := by decide

theorem test_witness_RotaryLimits :
    (Work.begin turning).heldForward = some (claim 2 (.rotate false) 0x11 0x11 .held) ∧
      turning.isRole .rotary = true ∧ turning.lockTurn.stall = false ∧ locking.lockTurn.state = .settling ∧
      locking.claims.find (tagOf 2) = some (claim 2 (.lockTurn 2 false) 0x13 0x13 .held) ∧
      locking.canSend = true ∧ locking.link.waits (.take (tagOf 2)) = false := by decide

theorem test_witness_SegmentCount :
    (engine [.dwell 1] 0 turning).segments.queue[0]? = some { body := .dwell 1, completed := false } ∧
      bodyMark (engine [.dwell 1] 0 turning).segments.queue 0 = none ∧
      (engine [.mark, .level 5 1] 1 turning).segments.queue[1]? = some { body := .level 5 1, completed := false } ∧
      bodyMark (engine [.mark, .level 5 1] 1 turning).segments.queue 1 ≠ none := by decide

theorem test_witness_Contend :
    (waiting [.beacon] (node 1 .run)).link.items.head? = some .beacon ∧ (node 1 .run).mode.transmits = true ∧
      (node 1 .run).host.resetTaken = false ∧
      (∀ r ∈ [arbitrationField .beacon 1, arbitrationField .park 0],
        arbitrationField TxItem.beacon.kind (node 1 .run).own ≤ r) ∧
      (node 1 .run).link.items = [] ∧ (node 1 .config).mode.transmits = false ∧
      (∃ r ∈ [arbitrationField .beacon 0], r < arbitrationField TxItem.beacon.kind (node 1 .run).own) := by decide

theorem test_witness_FrameTaken :
    (sends (.park 1) (.park 1) (node 1 .parked)).link.slot =
        some { item := .park 1, sending := some { frame := .park 1, fate := .judged, echoFault := false } } ∧
      (sends .string (.string (string2 1)) hoistDue).link.isSending = true ∧ Fate.judged ≠ .unjudged ∧
      (node 1 .run).mode ≠ .safeDown ∧ (node 1 .safeDown).mode = .safeDown ∧
      (beat 1 0).atRest = true ∧ (node 1 .safeDown).envelope.demand = 0 ∧ (node 1 .safeDown).trips.restCount = 0 ∧
      ({ beat 1 0 with atRest := false } : BeaconRecord).atRest = false ∧
      (Work.begin (sends .beacon (.beacon (beat 2 0)) turning)).heldForward =
        some (claim 2 (.rotate false) 0x11 0x11 .held) ∧
      (sends (.trip 1 .hostTrip) (.trip 1 .hostTrip) (live [asked] (node 1 .safeDown))).claims.table ≠ [] := by decide

/-- The own frame in transmission is taken. -/
def taken (i : TxItem) (f : Frame) (s : State) : State := after .frameTaken (sends i f s)

/-- Rest counts 0 and 1 lead to the two clauses of a rest beacon, at ROTARY too. -/
theorem test_witness_FrameTaken_rest :
    (taken .beacon (.beacon (beat 1 0)) (node 1 .safeDown)).trips.restCount = 1 ∧
      (taken .beacon (.beacon (beat 1 0)) (taken .beacon (.beacon (beat 1 0)) (node 1 .safeDown))).mode = .safed ∧
      (taken .beacon (.beacon (beat 2 0)) (taken .beacon (.beacon (beat 2 0)) (node 2 .safeDown))).mode = .safed := by
  decide +kernel

/-- ROTARY with an own GRANTED LOCK_TURN, its TAKE in transmission. -/
def takes : State :=
  sends (.take (tagOf 2)) (.take (tagOf 2)) (live [claim 2 (.lockTurn 2 false) 0x13 0x13 .granted] (node 2 .run))

theorem test_witness_OwnTake :
    Delivery .frameTaken takes.own (.take (tagOf 2))
        { takes.link with slot := none, attempts := 0 } takes ∧
      ClaimSound takes ∧ takes.isRole .rotary = true ∧
      takes.claims.find (tagOf 2) = some (claim 2 (.lockTurn 2 false) 0x13 0x13 .granted) ∧
      (claim 2 (.lockTurn 2 false) 0x13 0x13 .granted).isOwn takes.own = true ∧
      (claim 2 (.lockTurn 2 false) 0x13 0x13 .granted).state = .granted ∧
      (claim 2 (.lockTurn 2 false) 0x13 0x13 .granted).kind = .lockTurn 2 false :=
  ⟨Or.inr ⟨rfl, rfl, rfl, rfl, rfl, .take (tagOf 2), .judged, rfl, by decide⟩, List.pairwise_singleton _ _, rfl, rfl,
    rfl, rfl, rfl⟩

theorem test_own_take_begins_the_turn :
    (after .frameTaken takes).lockTurn.state = .turning := by decide +kernel

/-- PANEL's CLEAR in transmission with an echo fault, after so many failed attempts. -/
def failing (n : Nat) (fate : Fate) : State :=
  { node 4 .run with link := { (node 4 .run).link with
      slot := some { item := .clear, sending := some { frame := .clear, fate := fate, echoFault := true } }
      attempts := n } }

theorem test_witness_Attempts :
    (failing 1 .judged).link.attempts < 2 ∧ 2 ≤ (failing 2 .judged).link.attempts ∧
      (failing 1 .judged).host.resetTaken = false ∧
      (failing 0 .removedIfFailed).link.slot =
        some { item := .clear, sending := some { frame := .clear, fate := .removedIfFailed, echoFault := true } } ∧
      (failing 0 .unjudged).link.isSending = true := by decide

/-- Bit 3 of a CLEAR of station 4 is driven recessive, bit 0 is driven dominant, bit 7 lies after the arbitration
field: read inverted, the first loses the arbitration and the others are faults. -/
theorem test_witness_Echo :
    (node 4 .run).attempt ⟨[], []⟩ .clear = .clean ∧
      (node 4 .run).attempt ⟨[], [false, false, false, true]⟩ .clear = .lost ∧
      (node 4 .run).attempt ⟨[], [true]⟩ .clear = .faulty ∧
      (node 4 .run).attempt ⟨[], [false, false, false, false, false, false, false, true]⟩ .clear = .faulty ∧
      (Frame.bits 4 .clear)[3]? = some true ∧ (Frame.bits 4 .clear)[0]? = some false := by decide +kernel

/-- A fault found in the attempt fails it at the echo's end, and a clean echo takes the frame. -/
theorem test_contend_then_end :
    (after .attemptFailed (after (.contendForLink ⟨[], [true]⟩) (waiting [.clear] (node 4 .run)))).link.attempts = 1 ∧
      (after .frameTaken (after (.contendForLink ⟨[], []⟩) (waiting [.clear] (node 4 .run)))).link.items = [] := by
  decide +kernel

theorem test_witness_RxError :
    receive [] = .bad .crc ∧ receive (Frame.bits 2 (.park 64)) = .bad .format ∧ (node 1 .config).mode.receives = true ∧
      (node 1 .start).mode.receives = false := by decide +kernel

theorem test_witness_FrameWf : (Frame.string (string2 0)).wf = true ∧ (Frame.beacon (beat 0 0)).wf = true ∧
    (Frame.park 63).wf = true ∧ (Frame.trip 0 .stopInput).wf = true := by decide

theorem test_witness_OwnNumber :
    frameOfCommand (.clearFrame 1) = some (1, .clear) ∧ (node 1 .run).own = 1 ∧ Frame.clear.wf = true ∧
      (node 1 .run).mode.receives = true ∧ (node 1 .run).link.isSending = false ∧
      (2 : Station) ≠ (node 1 .config).own ∧ Frame.clear.kind ≠ .muster ∧ Frame.clear.kind ≠ .beacon ∧
      (sends .clear .clear (node 4 .run)).link.isSending = true := by decide

theorem test_witness_PeerFrames :
    (node 1 .run).hears 2 ∧ (node 1 .lockout).hears 2 ∧ Cause.hostTrip ≠ .start := by
  unfold State.hears; decide

/-- A frame delivered from a peer, and the own one taken, whatever the frame. -/
theorem test_witness_Delivery (f : Frame) :
    Delivery (.clearFrame 4) 4 .clear (node 1 .run).link (node 1 .run) ∧
      Delivery .frameTaken 4 f
        { (sends .clear f (node 4 .run)).link with slot := none, attempts := 0 } (sends .clear f (node 4 .run)) :=
  ⟨Or.inl ⟨rfl, ⟨rfl, rfl, by decide⟩, rfl⟩, Or.inr ⟨rfl, rfl, rfl, rfl, rfl, .clear, .judged, rfl, by decide⟩⟩

theorem test_witness_Clear :
    (node 1 .run).muster.map.get 4 = Role.panel.code ∧
      (node 1 .run).muster.map.get 2 ≠ Role.panel.code ∧ (node 1 .safed).clearRefusal = none ∧
      ({ node 1 .safed with
        trips := { (node 1 .safed).trips with stopActive := true } } : State).clearRefusal = some 1 := by decide

/-- The six reasons for which a CLEAR is refused, in their order, the last two at HOIST alone. -/
theorem test_witness_ClearReasons :
    (after .forceTrip (node 4 .run)).clearRefusal = some 0 ∧
      ({ node 1 .safed with axis := { (node 1 .safed).axis with
        position := { latest := none, outOfRange := true }, limitMark := true } } : State).clearRefusal = some 2 ∧
      ({ node 1 .safed with axis := { (node 1 .safed).axis with limitMark := true } } : State).clearRefusal = some 3 ∧
      ({ node 0 .safed with strings := { (node 0 .safed).strings with
        slackOver := true, mismatch := true } } : State).clearRefusal = some 4 ∧
      ({ node 0 .safed with strings := { (node 0 .safed).strings with mismatch := true } } : State).clearRefusal =
        some 5 ∧
      ({ node 1 .safed with strings := { (node 1 .safed).strings with mismatch := true } } : State).clearRefusal =
        none := by decide

/-- CROWD, a member of the consent set of LOCK_TURN, hearing ROTARY. -/
def crowdHears : State := peer 2 .fresh (node 1 .run)

theorem test_witness_ClaimFrame :
    (crowdHears.peers.get 2).admission.member = true ∧ crowdHears.claims.find (tagOf 2) = none ∧
      ClaimKind.parse 1 0x0200 = some (.lockTurn 2 false) ∧
      crowdHears.muster.map.get 2 = (ClaimKind.lockTurn 2 false).cls.originator.code ∧
      inMask (consentSetOf rig .lockTurn) 1 = true ∧ inMask (consentSetOf rig .rotate) 1 = false ∧
      (Work.begin crowdHears).answer (.lockTurn 2 false) = some .condition ∧
      (Work.begin (after (.controlStep ⟨10, 0, 0⟩) crowdHears)).answer (.lockTurn 2 false) = none ∧
      Delivery (.claimFrame 2 (tagOf 2) 1 0x0200) 2 (.claim (tagOf 2) 1 0x0200) crowdHears.link crowdHears :=
  ⟨rfl, rfl, rfl, rfl, by decide, by decide, by decide, by decide +kernel, Or.inl ⟨rfl, ⟨rfl, rfl, by decide⟩, rfl⟩⟩

/-- CROWD with a primary reading and a mode, about to answer. -/
def answering (v : Int) (mode : Mode) : State :=
  { node 1 mode with axis := { (node 1 mode).axis with primary := { latest := some v, outOfRange := false } } }

/-- The table of R83 in its order, and the slack force of 10 as the condition's bound. -/
theorem test_witness_Answers :
    (Work.begin (answering 10 .run)).answer (.lockTurn 2 false) = none ∧
      (Work.begin (answering (-11) .run)).answer (.lockTurn 2 false) = some .condition ∧
      (Work.begin { answering 11 .run with
        trips := { (node 1 .run).trips with gated := true } }).answer (.lockTurn 2 false) = some .gated ∧
      (Work.begin (answering 10 .parked)).answer (.lockTurn 2 false) = some .parked ∧
      (Work.begin (answering 10 .safed)).answer (.lockTurn 2 false) = some .notRun ∧
      (Work.begin (answering 10 .lockout)).answer (.lockTurn 2 false) = some .lockout ∧
      (answering 10 .run).grantCondition (.crowdLoad 0) = false := by decide

theorem test_witness_ClaimFrame_refused :
    ((node 1 .run).peers.get 2).admission.member = false ∧
      ((live [asked] crowdHears).claims.find (tagOf 2)).isSome ∧ MotionClass.ofCode 1 = some .lockTurn ∧
      ClaimKind.parse 1 0x0700 = none ∧ ClaimKind.parse 1 0x0600 = some (.lockTurn 6 false) ∧
      compatible (.stringMove true) (.lockTurn 2 false) = false := by decide

/-- A CLAIM of an unknown class code, and a REFUSE that finds the queue full. -/
theorem test_claim_not_admitted :
    MotionClass.ofCode 6 = none ∧ (after (.claimFrame 2 (tagOf 2) 6 0) crowdHears).link.items = [] ∧
      (after (.claimFrame 2 (tagOf 2) 1 0x0700) crowdHears).link.items = [.refuse (tagOf 2) .badClass] ∧
      (after (.claimFrame 2 (tagOf 2) 1 0x0700) (waiting (clears 12) crowdHears)).mode = .lockout := by
  decide +kernel

theorem test_witness_Grant :
    (live [asked] (node 2 .run)).claims.find (tagOf 2) = some asked ∧ inMask asked.consentSet 0 = true ∧
      inMask asked.consentSet 1 = false ∧ inMask asked.grants 0 = false ∧
      ((peer 0 .stale (node 2 .run)).peers.get 0).admission ∈ [Admission.stale, .lost, .foreign] ∧
      ((peer 0 .fresh (node 2 .run)).peers.get 0).admission ∉ [Admission.stale, .lost, .foreign] ∧
      asked.consentSet &&& ~~~(asked.grants ||| stationBit 0) ≠ 0 ∧
      asked.consentSet &&& ~~~((0x10 : Byte) ||| stationBit 0) = 0 ∧ (node 2 .run).trips.gated = false := by decide

/-- The last GRANT of a claim whose release is pending counts and queues nothing. -/
theorem test_grant_while_release_pending :
    (after (.grantFrame 0 (tagOf 2)) (live [{ asked with grants := 0x10, releasePending := true }]
        (peer 0 .fresh (node 2 .run)))).claims.table.map (·.state) = [.granted] ∧
      (after (.grantFrame 0 (tagOf 2)) (live [{ asked with grants := 0x10, releasePending := true }]
        (peer 0 .fresh (node 2 .run)))).link.items = [] := by decide +kernel

theorem test_witness_Take :
    (2 : Station) = (tagOf 2).station ∧ (crowdHears.peers.get 2).admission ≠ .foreign ∧
      (claim 2 (.rotate false) 0x11 0x11 .granted).state = .granted ∧ asked.state = .pending ∧
      turning.claims.find (tagOf 2) = some (claim 2 (.rotate false) 0x11 0x11 .held) ∧
      (node 1 .safed).mode ≠ .run ∧ (node 1 .safed).mode ≠ .parked ∧
      Delivery (.takeFrame 2 (tagOf 2)) 2 (.take (tagOf 2)) crowdHears.link crowdHears :=
  ⟨rfl, by decide, rfl, rfl, rfl, by decide, by decide, Or.inl ⟨rfl, ⟨rfl, rfl, by decide⟩, rfl⟩⟩

theorem test_witness_Endings :
    (live [asked] crowdHears).claims.find (tagOf 2) = some asked ∧ asked.kind.cls ≠ .lockTurn ∧
      (node 0 .run).isRole .hoist = true ∧ inMask asked.consentSet 0 = true ∧ asked.isOwn 1 = false ∧
      asked.isOwn 2 = true ∧ crowdHears.claims.find (tagOf 2) = none ∧ Reason.operator ≠ .badClass ∧
      Reason.operator ≠ .conflict := by decide

/-- A TAKE from another than the originator or from a FOREIGN one, a REVOKE from no member or a FOREIGN one. -/
theorem test_witness_Ignored :
    (live [asked] crowdHears).claims.find (tagOf 2) = some asked ∧ (0 : Station) ≠ (tagOf 2).station ∧
      (2 : Station) = (tagOf 2).station ∧ ((peer 2 .foreign (node 1 .run)).peers.get 2).admission = .foreign ∧
      inMask asked.consentSet 2 = false ∧ inMask asked.consentSet 0 = true ∧
      ((peer 0 .foreign (node 1 .run)).peers.get 0).admission = .foreign ∧
      (after (.revokeFrame 2 (tagOf 2) .operator) (live [asked] crowdHears)).claims.table = [asked] ∧
      (after (.refuseFrame 0 (tagOf 2) .badClass) crowdHears).host.events = [] := by decide +kernel

theorem test_witness_Revoke :
    (engine [.dwell 9] 0 turning).claims.find (tagOf 2) = some (claim 2 (.rotate false) 0x11 0x11 .held) ∧
      inMask (0x11 : Byte) 0 = true ∧ (engine [.dwell 9] 0 turning).segments.begun = true ∧
      (engine [.dwell 9] 0 turning).segments.pointer = some 0 ∧
      bodyMark (engine [.dwell 9] 0 turning).segments.queue 0 = none ∧ turning.isRole .hoist = false ∧
      bodyMark (engine [.mark, .dwell 9, .again 2 none, .dwell 3] 1 turning).segments.queue 1 = some 0 ∧
      bodyEnd (engine [.mark, .dwell 9, .again 2 none, .dwell 3] 1 turning).segments.queue 1 = 3 ∧
      (engine [.dwell 9] 0 turning).hears 0 := by unfold State.hears; decide

/-- HOIST with a LOCK_TURN of ROTARY live, section 2 FREE within the window of its pocket. -/
def hoistLocks : State :=
  { live [claim 2 (.lockTurn 2 false) 0x13 0x13 .held] (peer 2 .fresh (node 0 .run)) with
    image := { (node 0 .run).image with
      items := ((node 0 .run).image.items.set 6 1).set 11 5000 }
    strings := { (node 0 .run).strings with
      record := some { StringRecord.initial (node 0 .run).image with
        sections := [{ lock := .free, ext := 5025 }] } } }

theorem test_witness_LockTurnDone :
    hoistLocks.isRole .hoist = true ∧ ClaimSound hoistLocks ∧
      (hoistLocks.strings.record.bind (·.sectionAt 2)) = some { lock := .free, ext := 5025 } ∧
      nearestPocket hoistLocks.image 2 5025 = some 0 ∧ nearestPocket hoistLocks.image 2 5026 = none ∧
      (hoistLocks.peers.get 2).admission ≠ .foreign ∧
      Delivery (.releaseFrame 2 (tagOf 2) .done) 2 (.release (tagOf 2) .done) hoistLocks.link hoistLocks :=
  ⟨rfl, List.pairwise_singleton _ _, rfl, by decide, by decide, by decide, Or.inl ⟨rfl, ⟨rfl, rfl, by decide⟩, rfl⟩⟩

/-- Section 2 of HOIST's record after a frame about its LOCK_TURN. -/
def sectionAfter (c : Instr) (s : State) : Option LockState :=
  ((after c s).strings.record.bind (·.sectionAt 2)).map (·.lock)

/-- A peer's TRIP at HOIST with a HELD LOCK_TURN and with none, in RUN and in LOCKOUT. -/
theorem test_witness_PeerTrip :
    (hoistLocks.strings.record.bind (·.sectionAt 2)) = some { lock := .free, ext := 5025 } ∧
      (claim 2 (.lockTurn 2 false) 0x13 0x13 .held).state = .held ∧
      (after (.tripFrame 2 2 .hostTrip) (live [] hoistLocks)).strings = hoistLocks.strings ∧
      (after (.tripFrame 2 2 .hostTrip) (live [] hoistLocks)).mode = .safeDown ∧
      (after (.tripFrame 2 2 .hostTrip) { hoistLocks with mode := .lockout }).trips.record = [] ∧
      (hoistLocks.hears 2 ∧ Cause.hostTrip ≠ .start) := by unfold State.hears; decide +kernel

/-- The table of R19 for ENGAGE, and the doubt of R20. -/
theorem test_lock_turn_results :
    sectionAfter (.releaseFrame 2 (tagOf 2) .done) hoistLocks = some (.seated 0) ∧
      sectionAfter (.releaseFrame 2 (tagOf 2) .failedTime) hoistLocks = some .free ∧
      sectionAfter (.releaseFrame 2 (tagOf 2) .failedBound) hoistLocks = some .doubtful ∧
      sectionAfter (.releaseFrame 2 (tagOf 2) .cancelled) hoistLocks = some .doubtful ∧
      sectionAfter (.tripFrame 2 2 .hostTrip) hoistLocks = some .doubtful := by decide +kernel

/-- Two pockets 40 apart: 20 from each the lower index is taken, 21 from the first the second. -/
theorem test_witness_NearestPocket :
    nearestPocket { hoistLocks.image with items := (hoistLocks.image.items.set 6 2).set 12 5040 } 2 5020 = some 0 ∧
      nearestPocket { hoistLocks.image with items := (hoistLocks.image.items.set 6 2).set 12 5040 } 2 5021 =
        some 1 := by
  decide

theorem test_witness_StringFrame :
    (string2 1).wf = true ∧ (node 1 .run).muster.map.get 0 = Role.hoist.code ∧
      ((peer 0 .fresh (node 1 .run)).peers.get 0).admission.member = true ∧
      ((node 1 .run).peers.get 0).admission.member = false ∧ (node 1 .run).muster.map.get 2 ≠ Role.hoist.code := by
  decide

/-- Sequence differences 12 and 13 lead to the two clauses of a beacon in and out of its sequence. -/
theorem test_witness_Beacon :
    (beat 2 12).wf = true ∧ (beat 2 12).map = (node 1 .run).muster.map ∧
      (beat 2 12).role.toNat = ((peer 2 .fresh (node 1 .run)).peers.get 2).role.toNat ∧
      ((beat 2 12).seq - (0 : Byte)).toNat ≤ 12 ∧ 12 < ((beat 2 13).seq - (0 : Byte)).toNat ∧
      ((node 1 .run).peers.get 2).admission = .absent ∧
      ((peer 2 .lost (node 1 .run)).peers.get 2).admission = .lost ∧
      (beat 3 0).role.toNat ≠ ((peer 2 .fresh (node 1 .run)).peers.get 2).role.toNat := by decide

/-- CROWD that last heard sequence 0 from ROTARY, so many mismatches in a row before. -/
def heard (divergence : Nat) : State :=
  { node 1 .run with
    peers := (node 1 .run).peers.set 2 { (node 1 .run).peers.get 2 with
      admission := .fresh, role := 2, lastSeq := some 0, divergence := divergence } }

/-- The marks of a disagreeing and of a late beacon, and the first and second mismatch of the live tags. -/
theorem test_witness_Beacon_marks :
    ((after (.beaconFrame 2 (beat 3 1)) (heard 0)).peers.get 2).admission = .foreign ∧
      ((after (.beaconFrame 2 (beat 2 13)) (heard 0)).peers.get 2).admission = .lost ∧
      (after (.beaconFrame 2 { beat 2 12 with tags := [tagOf 2] }) (heard 0)).mode = .run ∧
      (after (.beaconFrame 2 { beat 2 12 with tags := [tagOf 2] }) (heard 1)).mode = .safeDown ∧
      inMask (after (.beaconFrame 2 (beat 2 1)) (node 1 .run)).muster.lateMarks 2 = true := by decide +kernel

/-- The state with a watch pattern in slot 3 that a primary measure above 9 meets. -/
def watching (action : WatchAction) (s : State) : State :=
  { s with
    image := s.image.writePattern 3
      (some { station := none, field := .primary, compare := .above, value := 9, action := action }) }

/-- ROTARY's beacons at 9 and at 10, the value of the pattern and the first beyond it. -/
theorem test_witness_Watch :
    Admitted 2 (beat 2 0) (watching .note crowdHears) ∧
      Begins 3 (watching .note crowdHears)
        (after (.beaconFrame 2 { beat 2 0 with primary := 10 }) (watching .note crowdHears)) ∧
      ¬ Begins 3 (watching .note crowdHears)
        (after (.beaconFrame 2 { beat 2 0 with primary := 9 }) (watching .note crowdHears)) ∧
      (after (.beaconFrame 2 { beat 2 0 with primary := 10 }) (watching .trip crowdHears)).mode = .safeDown ∧
      (after (.beaconFrame 2 { beat 2 0 with primary := 10 }) (watching .gate crowdHears)).trips.gated = true := by
  unfold Admitted State.hears Begins; decide +kernel

/-- The comparisons at the pattern's value and beside it, and a flag read as a number; of two GATE patterns whose match
begins the event names the first. -/
theorem test_witness_Comparisons :
    (Pattern.holdsOf { station := none, field := .primary, compare := .below, value := 9, action := .note }
        { beat 2 0 with primary := 8 }) = true ∧
      (Pattern.holdsOf { station := none, field := .primary, compare := .below, value := 9, action := .note }
        { beat 2 0 with primary := 9 }) = false ∧
      (Pattern.holdsOf { station := none, field := .flag 4, compare := .equal, value := 1, action := .note }
        { beat 2 0 with gated := true }) = true ∧
      (after (.beaconFrame 2 { beat 2 0 with primary := 10 }) { watching .gate crowdHears with
        image := (watching .gate crowdHears).image.writePattern 5 ((watching .gate crowdHears).image.patterns.get 3)
        }).host.events.map (fun e => (e.kind, e.value)) = [(.watchGate, 3)] := by decide +kernel

/-- HOIST awaiting CROWD with the start pending, and with CROWD FRESH. -/
theorem test_witness_StringBeacons :
    Admitted 1 (beat 1 0) (peer 1 .awaiting (hoistString false)) ∧
      Admitted 2 { beat 2 0 with unkeyed := true } (peer 2 .fresh (hoistString true)) ∧
      (peer 1 .awaiting (hoistString false)).stationOf .crowd = some 1 ∧
      (hoistString true).stationOf .rotary = some 2 ∧ (hoistString true).isRole .hoist = true ∧
      (after (.beaconFrame 1 (beat 1 0)) (peer 1 .awaiting (hoistString false))).mode = .run ∧
      ((after (.beaconFrame 1 (beat 1 0)) (peer 1 .awaiting (hoistString false))).strings.record.map (·.certain)) =
        some true := by
  unfold Admitted State.hears; decide +kernel

theorem test_witness_BeaconInMuster :
    (node 1 .muster).mode = .muster ∧ (node 1 .muster).link.isSending = false ∧
      (beat 2 0).map.get (node 1 .muster).own = (node 1 .muster).muster.straps.role ∧
      ({ beat 2 0 with map := rig.set 1 7 } : BeaconRecord).map.get (node 1 .muster).own ≠
        (node 1 .muster).muster.straps.role := by decide

theorem test_witness_Park :
    (63#8).toNat < 64 ∧ ¬ (64#8).toNat < 64 ∧ (crowdHears.peers.get 2).admission.member = true ∧
      ((node 1 .run).peers.get 2).admission = .absent ∧
      ((peer 2 .foreign (node 1 .run)).peers.get 2).admission = .foreign := by decide

theorem test_witness_Muster :
    (4#8).toNat ≤ 4 ∧ (∀ i, rig.get i ≠ 5 ∧ rig.get i ≠ 6) ∧ (node 1 .muster).muster.map.get 2 ≠ roleNone ∧
      ((node 1 .muster).muster.map.set 2 7).get 2 = roleNone ∧ PeersAbsent (node 1 .muster) ∧
      (node 1 .muster).link.isSending = false ∧
      (node 1 .muster).muster.map.get 1 = (node 1 .muster).muster.straps.role ∧
      inMask (node 1 .run).muster.lateMarks 2 = false := by unfold PeersAbsent; decide

/-- A MUSTER that gives a second CROWD, one with a code that names no role, and a late joiner marked before. -/
theorem test_witness_Muster_marks :
    (after (.musterFrame 3 1 (Eight.const 7) false) (node 1 .muster)).muster.dupRoles = 2#8 ∧
      4 < (5#8).toNat ∧ (rig.set 3 5).get 3 = 5 ∧
      inMask (after (.musterFrame 3 1 rig false) (node 1 .run)).muster.lateMarks 3 = true ∧
      (after (.musterFrame 3 1 rig false) (after (.musterFrame 3 1 rig false) (node 1 .run))).host.events.length =
        1 := by decide +kernel

/-- The default images pass JOIN's check of their roles; of HOIST's pockets, one beyond its stroke and one too close. -/
theorem test_witness_ImagesJudged :
    (Image.defaults 1).joinFault .crowd = none ∧ (Image.defaults 2).joinFault .rotary = none ∧
      (Image.defaults 3).joinFault .casing = none ∧ (Image.defaults 0).joinFault .hoist = none ∧
      hoistLocks.image.joinFault .hoist = none ∧
      { hoistLocks.image with items := hoistLocks.image.items.set 11 14001 }.joinFault .hoist = some 11 ∧
      { hoistLocks.image with items := (hoistLocks.image.items.set 6 2).set 12 5050 }.joinFault .hoist = some 12 ∧
      { hoistLocks.image with items := hoistLocks.image.items.set 40 0 }.joinFault .hoist = some 40 := by
  decide +kernel

/-- The block used, station 8 for any, mode equal 5 and NOTE; mode 4, a value beyond the range and byte 2 refused. -/
theorem test_witness_PatternsAndVerdicts :
    parsePattern 0x0108000000000502#64 =
        some (some { station := none, field := .mode, compare := .equal, value := 5, action := .note }) ∧
      parsePattern 0x0108000000000402#64 = none ∧ parsePattern 0x010806010249F102#64 = none ∧
      parsePattern 0x010806010249F002#64 ≠ none ∧
      parsePattern 0#64 = some none ∧ parsePattern 0x0200000000000000#64 = none ∧
      ({ (musterDue 0).muster with dupRoles := 6 } : MusterUnit).verdict = some (1, 1) ∧
      ({ (musterDue 0).muster with peerFault := true } : MusterUnit).verdict = some (2, 0) := by decide +kernel

/-- CASING held twice with no duplicated role marked: the role named is the model's choice (log 29). -/
theorem test_casing_twice :
    ({ (musterDue 0).muster with map := (rig.set 5 3).set 6 3 } : MusterUnit).verdict = some (3, 3) ∧
      ({ (musterDue 0).muster with map := rig.set 5 3 } : MusterUnit).verdict = none := by decide

/-- The beacon of a CROWD with readings, and HOIST's STRING. -/
theorem test_witness_FramesFilled :
    (∃ b, (answering 7 .run).fill .beacon = .beacon b ∧ b.primary = 7 ∧ b.role = 1 ∧ b.mode = 6) ∧
      (answering 7 .run).axis.primary.latest = some 7 ∧ (hoistString true).strings.record.isSome = true ∧
      (∃ g, (hoistString true).fill .string = .string g ∧ g.slack = 100 ∧ g.sections.length = 2) :=
  ⟨⟨_, rfl, rfl, rfl, rfl⟩, rfl, rfl, ⟨_, rfl, rfl, rfl⟩⟩

theorem test_witness_HostOrder :
    commandModes .join = some [.config] ∧ State.reset.ready = false ∧ (node 1 .config).ready = true ∧
      (node 1 .run).mode ∉ [Mode.config] ∧ ¬ commandRole .sendClear (node 1 .run).role ∧
      commandRole .sendClear (node 4 .run).role := by
  refine ⟨rfl, rfl, rfl, by decide, ?_, rfl⟩
  show ¬ (node 1 .run).role = some Role.panel
  decide

theorem test_witness_Events :
    (node 1 .run).ready = true ∧ (node 1 .run).mode ≠ .strapFault ∧ (node 1 .run).host.events = [] ∧
      ({ (node 1 .run).host with events := [Event.of .safed] } : HostPort).events = Event.of .safed :: [] := by decide

/-- The indices 59, 60, 67 and 68 stand where the clauses of WRITE_CONFIG meet. -/
theorem test_witness_Config :
    (itemRows 1)[59]? = some ⟨5, 90, 20⟩ ∧ (itemRows 1)[60]? = none ∧ 60 - 60 < 8 ∧ 67 - 60 < 8 ∧ ¬ 68 - 60 < 8 ∧
      (node 1 .config).mode = .config ∧ ((node 1 .config).role.bind (node 1 .config).image.joinFault) = none ∧
      (node 1 .config).link.items = [] ∧
      ((node 1 .config).role.bind
        { (node 1 .config).image with items := (node 1 .config).image.items.set 49 500 }.joinFault) = some 49 := by
  decide

/-- The byte of the overrun flag in STATUS, and the fault byte of a MUSTER frame (log 53). -/
theorem test_flag_bytes :
    (statusBytes { node 1 .run with host := { (node 1 .run).host with overrun := true } })[8]? = some 1 ∧
      (statusBytes (node 1 .run))[8]? = some 0 ∧ (Frame.payload (.muster 1 rig true)).getLast? = some 1 ∧
      (Frame.payload (.muster 1 rig false)).getLast? = some 0 := by decide

theorem test_witness_Records :
    ({ (node 1 .run).host with selection := some 20 } : HostPort).selection = some 20 ∧
      recordWords 20 (node 1 .run) = 1#16 :: (recordWords 20 (node 1 .run)).tail ∧
      (recordWords 20 (node 1 .run))[0]? = some 1#16 ∧ (recordWords 20 (node 1 .run)).length ≤ 64 ∧
      (20#8).toNat ≤ 20 ∧ ¬ (21#8).toNat ≤ 20 := by decide

/-- The claim entry of ROTARY's ROTATE FORWARD at position 0, its grant window at 40 ms. -/
theorem test_claim_entry_words :
    recordWords 9 (live [{ asked with grantWindow := some 40 }] (node 2 .run)) =
        [0x0100, 0x0200, 0x0000, 0x0000, 0x1100, 0x0204, 0x2800] ∧
      recordWords 16 (node 2 .run) = [0x0007] := by decide

theorem test_witness_RecordFields :
    (node 1 .run).lockTurn.turn = none ∧ (node 1 .run).lockTurn.timerRunning = false ∧
      (node 1 .run).lockTurn.result = none ∧
      (turn .stopping true 0 5 true).lockTurn.turn = some { tag := tagOf 2, sec := 2, disengage := true } ∧
      ((node 1 .run).peers.get 2).beacon = none ∧ (node 1 .run).strings.copy = none ∧
      pressing.strings.copy = some (string2 1) ∧ (hoistString true).strings.record.isSome := by decide

/-- The lock-turn record of a unit that settles, turns and stops: turn and timer, and at the stop the result. -/
theorem test_lock_turn_record :
    (recordWords 18 (turn .turning true 0 5 true)).take 8 = [1, 2, 64, 2, 1, 0, 0, 5] ∧
      (recordWords 18 { turn .stopping true 0 5 true with
        lockTurn := { (turn .stopping true 0 5 true).lockTurn with timerRunning := false, result := some .done } }).take
          11 = [1, 3, 64, 2, 1, 0, 0, 65535, 1, 20, 4] := by decide

/-- Queue lengths 15 and 16 stand where the clauses of PUT_SEGMENT meet. -/
theorem test_witness_PutSegment :
    parseSegment 1 2 0 0 1 0 = some (.dwell 1) ∧ parseSegment 1 2 0 0 0 0 = none ∧
      parseSegment 1 1 800 0 1 0 = some (.level 800 1) ∧ parseSegment 1 1 801 0 1 0 = none ∧
      (engine [.mark] 0 (node 1 .run)).segments.badSequence .mark = true ∧
      (engine [] 0 (node 1 .run)).segments.badSequence .mark = false ∧
      (engine [.dwell 1] 0 (node 1 .run)).segments.tailDwell = some 1 ∧
      (engine (List.replicate 15 (.level 1 1)) 0 (node 1 .run)).segments.queue.length < 16 ∧
      16 ≤ (engine (List.replicate 16 (.level 1 1)) 0 (node 1 .run)).segments.queue.length ∧
      (node 1 .run).isRole .panel = false := by decide

/-- A REPEAT with no open MARK, at the open MARK itself and after a segment of its body; a flush of two and of none. -/
theorem test_witness_SequenceAndFlush :
    (engine [] 0 (node 1 .run)).segments.badSequence (.again 2 none) = true ∧
      (engine [.mark] 0 (node 1 .run)).segments.badSequence (.again 2 none) = true ∧
      (engine [.mark, .dwell 1] 0 (node 1 .run)).segments.badSequence (.again 2 none) = false ∧
      (engine [.mark, .dwell 1, .again 2 none] 0 (node 1 .run)).segments.badSequence (.again 2 none) = true ∧
      (engine [.mark, .dwell 1, .again 2 none] 0 (node 1 .run)).segments.badSequence .mark = false ∧
      (after .flushSegments (engine [.mark, .dwell 1] 1 (node 1 .run))).host.events.map (fun e => (e.kind, e.value)) =
        [(.segmentsFlushed, 2)] ∧
      (after .flushSegments (node 1 .run)).host.events = [] := by decide

/-- ROTARY in RUN with every member of ROTATE's consent set FRESH. -/
def rotaryReady : State := peer 0 .fresh (peer 4 .fresh (node 2 .run))

theorem test_witness_RequestClaim :
    ClaimKind.parse 0 1 = some (.rotate true) ∧ ClaimKind.parse 0 2 = none ∧
      rotaryReady.localRefusal (.rotate true) = none ∧
      (node 2 .run).localRefusal (.rotate true) = some .memberNotFresh ∧
      12 ≤ (waiting (clears 12) rotaryReady).link.count ∧ (waiting (clears 11) rotaryReady).link.count < 12 ∧
      rotaryReady.claims.table.length ≤ 8 := by decide

/-- The local reasons in their order: each of these claims fails the check named and passes those before it. -/
theorem test_witness_LocalRefusal :
    rotaryReady.localRefusal (.crowdLoad 5) = some .role ∧
      (live [claim 1 (.crowdLoad 5) 0x15 0x15 .held] rotaryReady).localRefusal (.rotate true) = some .conflict ∧
      (live [claim 1 (.crowdLoad 5) 0x15 0x15 .held] rotaryReady).localRefusal (.rotate false) = none ∧
      (waiting [.claim (tagOf 2) .spinOff] rotaryReady).localRefusal (.rotate true) = some .conflict ∧
      ({ rotaryReady with trips := { rotaryReady.trips with gated := true } } : State).localRefusal (.rotate true) =
        some .gated ∧
      ({ rotaryReady with peers := rotaryReady.peers.set 0 { rotaryReady.peers.get 0 with
        beacon := some { beat 0 0 with mode := 7 }, parkMask := some 2 } } : State).localRefusal (.rotate true) =
        some .memberParked ∧
      ({ rotaryReady with peers := rotaryReady.peers.set 0 { rotaryReady.peers.get 0 with
        beacon := some { beat 0 0 with mode := 7 }, parkMask := some 1 } } : State).localRefusal (.rotate true) = none ∧
      (peer 4 .fresh { pressing with
        claims := { pressing.claims with table := [] }
        strings := { pressing.strings with refreshed := false } }).localRefusal (.crowdLoad 5) = some .loadPath := by
  decide

theorem test_witness_EndClaim :
    turning.claims.find (Tag.ofByte 0x40) = some (claim 2 (.rotate false) 0x11 0x11 .held) ∧
      turning.link.waits (.take (tagOf 2)) = false ∧ turning.host.resetTaken = false ∧
      ({ asked with releasePending := true } : ClaimEntry).releasePending = true ∧
      (waiting [.take (tagOf 2)] turning).link.waits (.take (tagOf 2)) = true ∧
      (after (.endClaim 0x40) (waiting [.take (tagOf 2)] turning)).link.items = [.release (tagOf 2) .complete] := by
  decide

/-- PANEL holding the consent of a ROTATE. -/
def panelConsents : ClaimEntry := { claim 2 (.rotate false) 0x11 0x10 .pending with consent := true }

theorem test_witness_Operator :
    (node 4 .run).isRole .panel = true ∧ 64 ≤ (64#8).toNat ∧ 2 ≤ (2#8).toNat ∧ (63#8).toNat < 64 ∧ (1#8).toNat < 2 ∧
      ClaimSound (live [panelConsents] (node 4 .run)) ∧
      (waiting (clears 11) (live [panelConsents] (node 4 .run))).link.count +
        (live [panelConsents] (node 4 .run)).claims.table.length ≤ 12 ∧
      inClassMask 1 panelConsents.kind.cls = true ∧ inClassMask 0x3E panelConsents.kind.cls = false :=
  ⟨rfl, by decide, by decide, by decide, by decide, List.pairwise_singleton _ _, by decide, by decide, by decide⟩

/-- Two consents at PANEL: the one whose class the new set leaves out is revoked, the other kept. -/
theorem test_operator_revokes_each :
    (after (.setOperator 0x20 1)
        (live [panelConsents, { claim 1 .casingTurn 0x11 0x10 .held with consent := true }] (node 4 .run))).link.items =
      [.revoke (tagOf 2) .operator] := by decide

/-- Two consents taken away: their REVOKEs stand in the order of the claim table, whichever it is (log 49). -/
theorem test_operator_revokes_two :
    (after (.setOperator 0 1)
        (live [panelConsents, { claim 1 .casingTurn 0x11 0x10 .held with consent := true }] (node 4 .run))).link.items =
      [.revoke (tagOf 2) .operator, .revoke (tagOf 1) .operator] ∧
    (after (.setOperator 0 1)
        (live [{ claim 1 .casingTurn 0x11 0x10 .held with consent := true }, panelConsents] (node 4 .run))).link.items =
      [.revoke (tagOf 1) .operator, .revoke (tagOf 2) .operator] := by decide

theorem test_witness_SendClear :
    (waiting [.clear] (node 4 .run)).link.holdsKind .clear = true ∧
      (waiting (List.replicate 12 .beacon) (node 4 .run)).link.holdsKind .clear = false ∧
      12 ≤ (waiting (List.replicate 12 .beacon) (node 4 .run)).link.count ∧
      (waiting (List.replicate 11 .beacon) (node 4 .run)).link.count < 12 := by decide

theorem test_witness_ParkCommand :
    (node 1 .run).link.queuedClaims = [] ∧ ((node 1 .run).claims.table.any fun e => e.isOwn 1) = false ∧
      ((node 1 .run).claims.table.any (·.consent)) = false ∧ (node 1 .run).envelope.demand = 0 ∧
      (turning.claims.table.any fun e => e.isOwn 2) = true ∧
      ((live [panelConsents] (node 4 .run)).claims.table.any (·.consent)) = true ∧
      ({ (node 1 .run).envelope with demand := 1 } : EnvelopeUnit).demand ≠ 0 ∧ (node 1 .parked).mode = .parked ∧
      12 ≤ (waiting (clears 12) (node 1 .run)).link.count ∧
      (after (.park 1) (waiting (clears 12) (node 1 .run))).host.reply =
        some { status := .queueFull, bytes := [] } := by
  decide

end Sys2Proof.Tests
end

section
/-! The receiver on a frame under the station's own number (R29): what a command that delivers a frame does, and the end
of a command whose whole work is one event. -/

namespace Sys2Proof.Machine

/-! ### A command whose whole work is one event -/

/-- A single post enters the event queue alone, whichever block made it (R191). -/
theorem ordered_post_begin (s : State) (b : Block) (e : Event) :
    ((Work.begin s).post b e).ordered = [e].map (·.stamped s.stamp) := by
  cases b <;> rfl

/-- Work that leaves the state as it found it and raises no cause ends calmly. -/
theorem calm_of_toState_eq {s : State} {w : Work} (hs : w.toState = s) (hr : w.raised = []) : Calm s w := by
  subst hs
  exact { raised := hr, copy := rfl, permit := by simp, starved := id }

/-- A command that only posts an event leaves every part of the state unchanged and ends with that event. -/
theorem finish_post_begin (s : State) (b : Block) (e : Event) :
    SameExcept [] s (finish s ((Work.begin s).post b e)) ∧
      Ends [e] [] s.host.reply s (finish s ((Work.begin s).post b e)) := by
  have calm : Calm s ((Work.begin s).post b e) := calm_of_toState_eq rfl rfl
  exact ⟨finish_sameExcept calm (SameExcept.refl [] s), finish_ends calm rfl (ordered_post_begin s b e)⟩

/-! ### The receiver (R28, R29) -/

/-- Every command that delivers a frame is the receiver on that frame. -/
theorem exec_of_frameOfCommand {c : Instr} {sender : Station} {f : Frame} (h : frameOfCommand c = some (sender, f))
    (s : State) : exec c s = receiveFrame sender f s := by
  cases c <;> cases h <;> rfl

/-- A frame can end at a station whose mode receives and that is not sending. -/
theorem deaf_eq_false_iff (s : State) :
    s.deaf = false ↔ s.mode.receives = true ∧ s.link.isSending = false := by
  simp [State.deaf]

/-- A well-formed frame under the station's own number posts SELF_HEARD, and no block is given it (R29). -/
theorem receiveFrame_own {s : State} {f : Frame} (hd : s.deaf = false) (hf : f.wf = true) :
    receiveFrame s.own f s =
      .next (finish s ((Work.begin s).post .linkController (.of .selfHeard (code := f.kind.code)))) := by
  simp [receiveFrame, hd, hf]

/-- Settles O33: the receiver posts SELF_HEARD and does nothing else, and a command that only posts ends calmly. -/
theorem ownNumberIsNotDelivered : Obligations.OwnNumberIsNotDelivered := by
  intro c s sender f hc hf hrec hsend hown
  subst hown
  have hd : s.deaf = false := (deaf_eq_false_iff s).mpr ⟨hrec, hsend⟩
  obtain ⟨same, ends⟩ :=
    finish_post_begin s .linkController (.of .selfHeard (code := f.kind.code))
  exact ⟨_, (exec_of_frameOfCommand hc s).trans (receiveFrame_own hd hf), same, ends⟩

end Sys2Proof.Machine
end

section
/-! READ_EVENT (R182): the judging of a host command at a station that answers, the modes in which the event queue can be
read, and what the command answers on a queue with records and on an empty one. -/

namespace Sys2Proof.Machine

/-! ### The judging of a command that is open to every role (R178) -/

/-- A station that answers, in a mode and a role the command is open to, carries the command out. -/
theorem serve_of_ready {s : State} {mode : Bool} (hready : s.ready = true) (hmode : mode = true)
    (act : State → State) : serve mode true act s = .next (act s) := by
  have hnot : s.notReady = false := by rw [notReady_eq, hready, Bool.not_true]
  rw [hmode, serve_acts act s hnot]

/-- A station that answers is past START. -/
theorem mode_ne_start_of_ready {s : State} (hready : s.ready = true) : s.mode ≠ .start := by
  unfold State.ready at hready
  exact of_decide_eq_true (Bool.and_eq_true_iff.mp hready).1

/-- Inputs are read, and records can be read out, in every mode but START and STRAP_FAULT (R117, R178). -/
theorem Mode.readsAxis_iff (m : Mode) : m.readsAxis = true ↔ m ≠ .start ∧ m ≠ .strapFault := by
  cases m <;> decide

/-! ### READ_EVENT (R182) -/

theorem exec_readEvent (s : State) : exec .readEvent s = execReadEvent s := rfl

/-- READ_EVENT on a queue with records: the oldest leaves the queue and is returned, and ATTN stands only while others
remain. -/
theorem execReadEvent_cons {s : State} {e : Event} {rest : List Event} (hready : s.ready = true)
    (hmode : s.mode.readsAxis = true) (hevents : s.host.events = e :: rest) :
    execReadEvent s = .next (({ s with
      host := { s.host with events := rest, attn := s.host.attn && !rest.isEmpty } } : State).reply
        .done (eventBytes e rest.length)) := by
  unfold execReadEvent
  rw [serve_of_ready hready hmode]
  simp only [hevents]

/-- READ_EVENT on an empty queue only answers EMPTY. -/
theorem execReadEvent_nil {s : State} (hready : s.ready = true) (hmode : s.mode.readsAxis = true)
    (hevents : s.host.events = []) : execReadEvent s = .next (s.reply .empty []) := by
  unfold execReadEvent
  rw [serve_of_ready hready hmode]
  simp only [hevents]

/-- Settles O53: past START and outside STRAP_FAULT the command is carried out, and the queue is empty or has an oldest
record. -/
theorem eventsAreReadOldestFirst : Obligations.EventsAreReadOldestFirst := by
  intro s hready hstrap
  have hmode : s.mode.readsAxis = true :=
    (Mode.readsAxis_iff s.mode).mpr ⟨mode_ne_start_of_ready hready, hstrap⟩
  constructor
  · intro e rest hevents
    exact (exec_readEvent s).trans (execReadEvent_cons hready hmode hevents)
  · intro hevents
    exact (exec_readEvent s).trans (execReadEvent_nil hready hmode hevents)

end Sys2Proof.Machine
end
